-- ==== Sys2Proof/Word.lean ====
section
/-!
DEFINITION. The word types of the core: register and pc width (R9), the memory byte (R32), a register index
and the opcode and immediate fields of an instruction word (R49).
-/

namespace Sys2Proof

/-- A 32-bit register, pc or instruction word (R9, R15, R20, R48). -/
abbrev Word := BitVec 32

/-- One byte of memory (R32). -/
abbrev Byte := BitVec 8

/-- A register index field: 5 bits, so that every index names a register (R18, R49). -/
abbrev RegIdx := BitVec 5

/-- The 7-bit major opcode, the only decoded selector (R49, R55). -/
abbrev Opcode := BitVec 7

/-- The 12-bit immediate field of ADDI before sign extension (R49, R53). -/
abbrev Imm12 := BitVec 12

end Sys2Proof
end

