-- ==== Sys2Proof/Machine/Alu.lean ====
section
/-!
DEFINITION. The ALU: one 32-bit adder (R76). The core has no status flag, so there is no flag computation (R25).
-/

namespace Sys2Proof.Machine

/-- `(a + b) mod 2^32`; overflow is not detected, flagged or trapped (R76). -/
def aluAdd (a b : Word) : Word := a + b

end Sys2Proof.Machine
end

