-- ==== Sys2Proof/Syntax.lean ====
section
/-!
DEFINITION. The instructions: one constructor per row of spec/opcode_table.json (R55, R56).
An unimplemented word's only decoded datum is its opcode (R55, R79), which its constructor's name carries.
-/

namespace Sys2Proof

/-- The decoded instruction of R55, its variant Unknown split into the table's 126 rows (R56). -/
inductive Instr where
  /-- ADDI (R75): imm is the field already sign-extended to 32 bits, as Decode builds it (R53, R55). -/
  | addi (rd rs1 : RegIdx) (imm : Word)
  /-- ADD (R77). -/
  | add (rd rs1 rs2 : RegIdx)
  | unimplemented0x00
  | unimplemented0x01
  | unimplemented0x02
  | unimplemented0x03
  | unimplemented0x04
  | unimplemented0x05
  | unimplemented0x06
  | unimplemented0x07
  | unimplemented0x08
  | unimplemented0x09
  | unimplemented0x0A
  | unimplemented0x0B
  | unimplemented0x0C
  | unimplemented0x0D
  | unimplemented0x0E
  | unimplemented0x0F
  | unimplemented0x10
  | unimplemented0x11
  | unimplemented0x12
  | unimplemented0x14
  | unimplemented0x15
  | unimplemented0x16
  | unimplemented0x17
  | unimplemented0x18
  | unimplemented0x19
  | unimplemented0x1A
  | unimplemented0x1B
  | unimplemented0x1C
  | unimplemented0x1D
  | unimplemented0x1E
  | unimplemented0x1F
  | unimplemented0x20
  | unimplemented0x21
  | unimplemented0x22
  | unimplemented0x23
  | unimplemented0x24
  | unimplemented0x25
  | unimplemented0x26
  | unimplemented0x27
  | unimplemented0x28
  | unimplemented0x29
  | unimplemented0x2A
  | unimplemented0x2B
  | unimplemented0x2C
  | unimplemented0x2D
  | unimplemented0x2E
  | unimplemented0x2F
  | unimplemented0x30
  | unimplemented0x31
  | unimplemented0x32
  | unimplemented0x34
  | unimplemented0x35
  | unimplemented0x36
  | unimplemented0x37
  | unimplemented0x38
  | unimplemented0x39
  | unimplemented0x3A
  | unimplemented0x3B
  | unimplemented0x3C
  | unimplemented0x3D
  | unimplemented0x3E
  | unimplemented0x3F
  | unimplemented0x40
  | unimplemented0x41
  | unimplemented0x42
  | unimplemented0x43
  | unimplemented0x44
  | unimplemented0x45
  | unimplemented0x46
  | unimplemented0x47
  | unimplemented0x48
  | unimplemented0x49
  | unimplemented0x4A
  | unimplemented0x4B
  | unimplemented0x4C
  | unimplemented0x4D
  | unimplemented0x4E
  | unimplemented0x4F
  | unimplemented0x50
  | unimplemented0x51
  | unimplemented0x52
  | unimplemented0x53
  | unimplemented0x54
  | unimplemented0x55
  | unimplemented0x56
  | unimplemented0x57
  | unimplemented0x58
  | unimplemented0x59
  | unimplemented0x5A
  | unimplemented0x5B
  | unimplemented0x5C
  | unimplemented0x5D
  | unimplemented0x5E
  | unimplemented0x5F
  | unimplemented0x60
  | unimplemented0x61
  | unimplemented0x62
  | unimplemented0x63
  | unimplemented0x64
  | unimplemented0x65
  | unimplemented0x66
  | unimplemented0x67
  | unimplemented0x68
  | unimplemented0x69
  | unimplemented0x6A
  | unimplemented0x6B
  | unimplemented0x6C
  | unimplemented0x6D
  | unimplemented0x6E
  | unimplemented0x6F
  | unimplemented0x70
  | unimplemented0x71
  | unimplemented0x72
  | unimplemented0x73
  | unimplemented0x74
  | unimplemented0x75
  | unimplemented0x76
  | unimplemented0x77
  | unimplemented0x78
  | unimplemented0x79
  | unimplemented0x7A
  | unimplemented0x7B
  | unimplemented0x7C
  | unimplemented0x7D
  | unimplemented0x7E
  | unimplemented0x7F
deriving DecidableEq, Repr

end Sys2Proof
end

