-- ==== Sys2Proof/WellFormed.lean ====
section
/-!
DEFINITION. Which terms of Instr an instruction word can stand for.
Register indexes are 5 bits by type (R18); the one check is the range of ADDI's immediate (R53).
-/

namespace Sys2Proof

/-- An ADDI immediate is a sign-extended 12-bit value, in -2048 to 2047 (R53). -/
def immInRange (imm : Word) : Bool :=
  decide (-2048 ≤ imm.toInt) && decide (imm.toInt ≤ 2047)

/-- Well-formedness of an instruction: only ADDI has an operand that can be out of range. -/
def Instr.wf (i : Instr) : Bool :=
  match i with
  | .addi _ _ imm => immInRange imm
  | .add _ _ _ => true
  | .unimplemented0x00 => true
  | .unimplemented0x01 => true
  | .unimplemented0x02 => true
  | .unimplemented0x03 => true
  | .unimplemented0x04 => true
  | .unimplemented0x05 => true
  | .unimplemented0x06 => true
  | .unimplemented0x07 => true
  | .unimplemented0x08 => true
  | .unimplemented0x09 => true
  | .unimplemented0x0A => true
  | .unimplemented0x0B => true
  | .unimplemented0x0C => true
  | .unimplemented0x0D => true
  | .unimplemented0x0E => true
  | .unimplemented0x0F => true
  | .unimplemented0x10 => true
  | .unimplemented0x11 => true
  | .unimplemented0x12 => true
  | .unimplemented0x14 => true
  | .unimplemented0x15 => true
  | .unimplemented0x16 => true
  | .unimplemented0x17 => true
  | .unimplemented0x18 => true
  | .unimplemented0x19 => true
  | .unimplemented0x1A => true
  | .unimplemented0x1B => true
  | .unimplemented0x1C => true
  | .unimplemented0x1D => true
  | .unimplemented0x1E => true
  | .unimplemented0x1F => true
  | .unimplemented0x20 => true
  | .unimplemented0x21 => true
  | .unimplemented0x22 => true
  | .unimplemented0x23 => true
  | .unimplemented0x24 => true
  | .unimplemented0x25 => true
  | .unimplemented0x26 => true
  | .unimplemented0x27 => true
  | .unimplemented0x28 => true
  | .unimplemented0x29 => true
  | .unimplemented0x2A => true
  | .unimplemented0x2B => true
  | .unimplemented0x2C => true
  | .unimplemented0x2D => true
  | .unimplemented0x2E => true
  | .unimplemented0x2F => true
  | .unimplemented0x30 => true
  | .unimplemented0x31 => true
  | .unimplemented0x32 => true
  | .unimplemented0x34 => true
  | .unimplemented0x35 => true
  | .unimplemented0x36 => true
  | .unimplemented0x37 => true
  | .unimplemented0x38 => true
  | .unimplemented0x39 => true
  | .unimplemented0x3A => true
  | .unimplemented0x3B => true
  | .unimplemented0x3C => true
  | .unimplemented0x3D => true
  | .unimplemented0x3E => true
  | .unimplemented0x3F => true
  | .unimplemented0x40 => true
  | .unimplemented0x41 => true
  | .unimplemented0x42 => true
  | .unimplemented0x43 => true
  | .unimplemented0x44 => true
  | .unimplemented0x45 => true
  | .unimplemented0x46 => true
  | .unimplemented0x47 => true
  | .unimplemented0x48 => true
  | .unimplemented0x49 => true
  | .unimplemented0x4A => true
  | .unimplemented0x4B => true
  | .unimplemented0x4C => true
  | .unimplemented0x4D => true
  | .unimplemented0x4E => true
  | .unimplemented0x4F => true
  | .unimplemented0x50 => true
  | .unimplemented0x51 => true
  | .unimplemented0x52 => true
  | .unimplemented0x53 => true
  | .unimplemented0x54 => true
  | .unimplemented0x55 => true
  | .unimplemented0x56 => true
  | .unimplemented0x57 => true
  | .unimplemented0x58 => true
  | .unimplemented0x59 => true
  | .unimplemented0x5A => true
  | .unimplemented0x5B => true
  | .unimplemented0x5C => true
  | .unimplemented0x5D => true
  | .unimplemented0x5E => true
  | .unimplemented0x5F => true
  | .unimplemented0x60 => true
  | .unimplemented0x61 => true
  | .unimplemented0x62 => true
  | .unimplemented0x63 => true
  | .unimplemented0x64 => true
  | .unimplemented0x65 => true
  | .unimplemented0x66 => true
  | .unimplemented0x67 => true
  | .unimplemented0x68 => true
  | .unimplemented0x69 => true
  | .unimplemented0x6A => true
  | .unimplemented0x6B => true
  | .unimplemented0x6C => true
  | .unimplemented0x6D => true
  | .unimplemented0x6E => true
  | .unimplemented0x6F => true
  | .unimplemented0x70 => true
  | .unimplemented0x71 => true
  | .unimplemented0x72 => true
  | .unimplemented0x73 => true
  | .unimplemented0x74 => true
  | .unimplemented0x75 => true
  | .unimplemented0x76 => true
  | .unimplemented0x77 => true
  | .unimplemented0x78 => true
  | .unimplemented0x79 => true
  | .unimplemented0x7A => true
  | .unimplemented0x7B => true
  | .unimplemented0x7C => true
  | .unimplemented0x7D => true
  | .unimplemented0x7E => true
  | .unimplemented0x7F => true

end Sys2Proof
end

