-- ==== Sys2Proof/Decode.lean ====
section
/-!
DEFINITION. Byte order, the fields of a word, the decoder and the encoder (R35, R48 to R56, R62).
The decoder never looks at bits 14:12, nor at bits 31:25 of an ADD word (R50, 90_conflicts.md C1).
-/

namespace Sys2Proof

/-- Four bytes in address order as one little-endian word (R35). -/
def wordOfBytes (b0 b1 b2 b3 : Byte) : Word :=
  b0.setWidth 32 ||| (b1.setWidth 32 <<< 8) ||| (b2.setWidth 32 <<< 16) ||| (b3.setWidth 32 <<< 24)

/-- Byte k of a word: the byte that lies at address + k (R35). -/
def byteOfWord (w : Word) (k : Nat) : Byte := w.extractLsb' (8 * k) 8

/-- The four bytes of a word in address order (R35). -/
def bytesOfWord (w : Word) : List Byte :=
  [byteOfWord w 0, byteOfWord w 1, byteOfWord w 2, byteOfWord w 3]

/-- `opcode = w[6:0]` (R49). -/
def opcodeField (w : Word) : Opcode := w.extractLsb' 0 7

/-- `rd = w[11:7]` (R49). -/
def rdField (w : Word) : RegIdx := w.extractLsb' 7 5

/-- `rs1 = w[19:15]` (R49). -/
def rs1Field (w : Word) : RegIdx := w.extractLsb' 15 5

/-- `rs2 = w[24:20]` (R49). -/
def rs2Field (w : Word) : RegIdx := w.extractLsb' 20 5

/-- `imm = w[31:20]`, before sign extension (R49). -/
def immField (w : Word) : Imm12 := w.extractLsb' 20 12

/-- `sext_12`: copy bit 11 into bits 31:12 (R12, R53). -/
def sext12 (v : Imm12) : Word := v.signExtend 32

/-- The row of the opcode table for a word that is neither ADDI nor ADD: `Unknown` with this opcode (R55, R56).
decodeWord calls it with such opcodes only, of which the last arm takes 0x7F. -/
def unimplementedOf (op : Opcode) : Instr :=
  match op with
  | 0x00#7 => .unimplemented0x00
  | 0x01#7 => .unimplemented0x01
  | 0x02#7 => .unimplemented0x02
  | 0x03#7 => .unimplemented0x03
  | 0x04#7 => .unimplemented0x04
  | 0x05#7 => .unimplemented0x05
  | 0x06#7 => .unimplemented0x06
  | 0x07#7 => .unimplemented0x07
  | 0x08#7 => .unimplemented0x08
  | 0x09#7 => .unimplemented0x09
  | 0x0A#7 => .unimplemented0x0A
  | 0x0B#7 => .unimplemented0x0B
  | 0x0C#7 => .unimplemented0x0C
  | 0x0D#7 => .unimplemented0x0D
  | 0x0E#7 => .unimplemented0x0E
  | 0x0F#7 => .unimplemented0x0F
  | 0x10#7 => .unimplemented0x10
  | 0x11#7 => .unimplemented0x11
  | 0x12#7 => .unimplemented0x12
  | 0x14#7 => .unimplemented0x14
  | 0x15#7 => .unimplemented0x15
  | 0x16#7 => .unimplemented0x16
  | 0x17#7 => .unimplemented0x17
  | 0x18#7 => .unimplemented0x18
  | 0x19#7 => .unimplemented0x19
  | 0x1A#7 => .unimplemented0x1A
  | 0x1B#7 => .unimplemented0x1B
  | 0x1C#7 => .unimplemented0x1C
  | 0x1D#7 => .unimplemented0x1D
  | 0x1E#7 => .unimplemented0x1E
  | 0x1F#7 => .unimplemented0x1F
  | 0x20#7 => .unimplemented0x20
  | 0x21#7 => .unimplemented0x21
  | 0x22#7 => .unimplemented0x22
  | 0x23#7 => .unimplemented0x23
  | 0x24#7 => .unimplemented0x24
  | 0x25#7 => .unimplemented0x25
  | 0x26#7 => .unimplemented0x26
  | 0x27#7 => .unimplemented0x27
  | 0x28#7 => .unimplemented0x28
  | 0x29#7 => .unimplemented0x29
  | 0x2A#7 => .unimplemented0x2A
  | 0x2B#7 => .unimplemented0x2B
  | 0x2C#7 => .unimplemented0x2C
  | 0x2D#7 => .unimplemented0x2D
  | 0x2E#7 => .unimplemented0x2E
  | 0x2F#7 => .unimplemented0x2F
  | 0x30#7 => .unimplemented0x30
  | 0x31#7 => .unimplemented0x31
  | 0x32#7 => .unimplemented0x32
  | 0x34#7 => .unimplemented0x34
  | 0x35#7 => .unimplemented0x35
  | 0x36#7 => .unimplemented0x36
  | 0x37#7 => .unimplemented0x37
  | 0x38#7 => .unimplemented0x38
  | 0x39#7 => .unimplemented0x39
  | 0x3A#7 => .unimplemented0x3A
  | 0x3B#7 => .unimplemented0x3B
  | 0x3C#7 => .unimplemented0x3C
  | 0x3D#7 => .unimplemented0x3D
  | 0x3E#7 => .unimplemented0x3E
  | 0x3F#7 => .unimplemented0x3F
  | 0x40#7 => .unimplemented0x40
  | 0x41#7 => .unimplemented0x41
  | 0x42#7 => .unimplemented0x42
  | 0x43#7 => .unimplemented0x43
  | 0x44#7 => .unimplemented0x44
  | 0x45#7 => .unimplemented0x45
  | 0x46#7 => .unimplemented0x46
  | 0x47#7 => .unimplemented0x47
  | 0x48#7 => .unimplemented0x48
  | 0x49#7 => .unimplemented0x49
  | 0x4A#7 => .unimplemented0x4A
  | 0x4B#7 => .unimplemented0x4B
  | 0x4C#7 => .unimplemented0x4C
  | 0x4D#7 => .unimplemented0x4D
  | 0x4E#7 => .unimplemented0x4E
  | 0x4F#7 => .unimplemented0x4F
  | 0x50#7 => .unimplemented0x50
  | 0x51#7 => .unimplemented0x51
  | 0x52#7 => .unimplemented0x52
  | 0x53#7 => .unimplemented0x53
  | 0x54#7 => .unimplemented0x54
  | 0x55#7 => .unimplemented0x55
  | 0x56#7 => .unimplemented0x56
  | 0x57#7 => .unimplemented0x57
  | 0x58#7 => .unimplemented0x58
  | 0x59#7 => .unimplemented0x59
  | 0x5A#7 => .unimplemented0x5A
  | 0x5B#7 => .unimplemented0x5B
  | 0x5C#7 => .unimplemented0x5C
  | 0x5D#7 => .unimplemented0x5D
  | 0x5E#7 => .unimplemented0x5E
  | 0x5F#7 => .unimplemented0x5F
  | 0x60#7 => .unimplemented0x60
  | 0x61#7 => .unimplemented0x61
  | 0x62#7 => .unimplemented0x62
  | 0x63#7 => .unimplemented0x63
  | 0x64#7 => .unimplemented0x64
  | 0x65#7 => .unimplemented0x65
  | 0x66#7 => .unimplemented0x66
  | 0x67#7 => .unimplemented0x67
  | 0x68#7 => .unimplemented0x68
  | 0x69#7 => .unimplemented0x69
  | 0x6A#7 => .unimplemented0x6A
  | 0x6B#7 => .unimplemented0x6B
  | 0x6C#7 => .unimplemented0x6C
  | 0x6D#7 => .unimplemented0x6D
  | 0x6E#7 => .unimplemented0x6E
  | 0x6F#7 => .unimplemented0x6F
  | 0x70#7 => .unimplemented0x70
  | 0x71#7 => .unimplemented0x71
  | 0x72#7 => .unimplemented0x72
  | 0x73#7 => .unimplemented0x73
  | 0x74#7 => .unimplemented0x74
  | 0x75#7 => .unimplemented0x75
  | 0x76#7 => .unimplemented0x76
  | 0x77#7 => .unimplemented0x77
  | 0x78#7 => .unimplemented0x78
  | 0x79#7 => .unimplemented0x79
  | 0x7A#7 => .unimplemented0x7A
  | 0x7B#7 => .unimplemented0x7B
  | 0x7C#7 => .unimplemented0x7C
  | 0x7D#7 => .unimplemented0x7D
  | 0x7E#7 => .unimplemented0x7E
  | _ => .unimplemented0x7F

/-- Decode (R55): total on every 32-bit word and keyed on the opcode alone. -/
def decodeWord (w : Word) : Instr :=
  match opcodeField w with
  | 0x13#7 => .addi (rdField w) (rs1Field w) (sext12 (immField w))
  | 0x33#7 => .add (rdField w) (rs1Field w) (rs2Field w)
  | op => unimplementedOf op

/-- Why a list of bytes holds no instruction. -/
inductive DecodeReject where
  /-- Fewer than the four bytes every instruction takes (R48). Safe: the core has no shorter instruction. -/
  | fewerThanFourBytes
deriving DecidableEq, Repr

/-- Decode the instruction at the head of a list of bytes: always four bytes (R48), in little-endian order (R35).
Answers the instruction and the bytes after it. -/
def decodeBytes (bytes : List Byte) : Except DecodeReject (Instr × List Byte) :=
  match bytes with
  | b0 :: b1 :: b2 :: b3 :: rest => .ok (decodeWord (wordOfBytes b0 b1 b2 b3), rest)
  | _ => .error .fewerThanFourBytes

/-- The opcode of each row of spec/opcode_table.json (its match value under the mask 0x7F, R56). -/
def Instr.opcode (i : Instr) : Opcode :=
  match i with
  | .addi _ _ _ => 0x13#7
  | .add _ _ _ => 0x33#7
  | .unimplemented0x00 => 0x00#7
  | .unimplemented0x01 => 0x01#7
  | .unimplemented0x02 => 0x02#7
  | .unimplemented0x03 => 0x03#7
  | .unimplemented0x04 => 0x04#7
  | .unimplemented0x05 => 0x05#7
  | .unimplemented0x06 => 0x06#7
  | .unimplemented0x07 => 0x07#7
  | .unimplemented0x08 => 0x08#7
  | .unimplemented0x09 => 0x09#7
  | .unimplemented0x0A => 0x0A#7
  | .unimplemented0x0B => 0x0B#7
  | .unimplemented0x0C => 0x0C#7
  | .unimplemented0x0D => 0x0D#7
  | .unimplemented0x0E => 0x0E#7
  | .unimplemented0x0F => 0x0F#7
  | .unimplemented0x10 => 0x10#7
  | .unimplemented0x11 => 0x11#7
  | .unimplemented0x12 => 0x12#7
  | .unimplemented0x14 => 0x14#7
  | .unimplemented0x15 => 0x15#7
  | .unimplemented0x16 => 0x16#7
  | .unimplemented0x17 => 0x17#7
  | .unimplemented0x18 => 0x18#7
  | .unimplemented0x19 => 0x19#7
  | .unimplemented0x1A => 0x1A#7
  | .unimplemented0x1B => 0x1B#7
  | .unimplemented0x1C => 0x1C#7
  | .unimplemented0x1D => 0x1D#7
  | .unimplemented0x1E => 0x1E#7
  | .unimplemented0x1F => 0x1F#7
  | .unimplemented0x20 => 0x20#7
  | .unimplemented0x21 => 0x21#7
  | .unimplemented0x22 => 0x22#7
  | .unimplemented0x23 => 0x23#7
  | .unimplemented0x24 => 0x24#7
  | .unimplemented0x25 => 0x25#7
  | .unimplemented0x26 => 0x26#7
  | .unimplemented0x27 => 0x27#7
  | .unimplemented0x28 => 0x28#7
  | .unimplemented0x29 => 0x29#7
  | .unimplemented0x2A => 0x2A#7
  | .unimplemented0x2B => 0x2B#7
  | .unimplemented0x2C => 0x2C#7
  | .unimplemented0x2D => 0x2D#7
  | .unimplemented0x2E => 0x2E#7
  | .unimplemented0x2F => 0x2F#7
  | .unimplemented0x30 => 0x30#7
  | .unimplemented0x31 => 0x31#7
  | .unimplemented0x32 => 0x32#7
  | .unimplemented0x34 => 0x34#7
  | .unimplemented0x35 => 0x35#7
  | .unimplemented0x36 => 0x36#7
  | .unimplemented0x37 => 0x37#7
  | .unimplemented0x38 => 0x38#7
  | .unimplemented0x39 => 0x39#7
  | .unimplemented0x3A => 0x3A#7
  | .unimplemented0x3B => 0x3B#7
  | .unimplemented0x3C => 0x3C#7
  | .unimplemented0x3D => 0x3D#7
  | .unimplemented0x3E => 0x3E#7
  | .unimplemented0x3F => 0x3F#7
  | .unimplemented0x40 => 0x40#7
  | .unimplemented0x41 => 0x41#7
  | .unimplemented0x42 => 0x42#7
  | .unimplemented0x43 => 0x43#7
  | .unimplemented0x44 => 0x44#7
  | .unimplemented0x45 => 0x45#7
  | .unimplemented0x46 => 0x46#7
  | .unimplemented0x47 => 0x47#7
  | .unimplemented0x48 => 0x48#7
  | .unimplemented0x49 => 0x49#7
  | .unimplemented0x4A => 0x4A#7
  | .unimplemented0x4B => 0x4B#7
  | .unimplemented0x4C => 0x4C#7
  | .unimplemented0x4D => 0x4D#7
  | .unimplemented0x4E => 0x4E#7
  | .unimplemented0x4F => 0x4F#7
  | .unimplemented0x50 => 0x50#7
  | .unimplemented0x51 => 0x51#7
  | .unimplemented0x52 => 0x52#7
  | .unimplemented0x53 => 0x53#7
  | .unimplemented0x54 => 0x54#7
  | .unimplemented0x55 => 0x55#7
  | .unimplemented0x56 => 0x56#7
  | .unimplemented0x57 => 0x57#7
  | .unimplemented0x58 => 0x58#7
  | .unimplemented0x59 => 0x59#7
  | .unimplemented0x5A => 0x5A#7
  | .unimplemented0x5B => 0x5B#7
  | .unimplemented0x5C => 0x5C#7
  | .unimplemented0x5D => 0x5D#7
  | .unimplemented0x5E => 0x5E#7
  | .unimplemented0x5F => 0x5F#7
  | .unimplemented0x60 => 0x60#7
  | .unimplemented0x61 => 0x61#7
  | .unimplemented0x62 => 0x62#7
  | .unimplemented0x63 => 0x63#7
  | .unimplemented0x64 => 0x64#7
  | .unimplemented0x65 => 0x65#7
  | .unimplemented0x66 => 0x66#7
  | .unimplemented0x67 => 0x67#7
  | .unimplemented0x68 => 0x68#7
  | .unimplemented0x69 => 0x69#7
  | .unimplemented0x6A => 0x6A#7
  | .unimplemented0x6B => 0x6B#7
  | .unimplemented0x6C => 0x6C#7
  | .unimplemented0x6D => 0x6D#7
  | .unimplemented0x6E => 0x6E#7
  | .unimplemented0x6F => 0x6F#7
  | .unimplemented0x70 => 0x70#7
  | .unimplemented0x71 => 0x71#7
  | .unimplemented0x72 => 0x72#7
  | .unimplemented0x73 => 0x73#7
  | .unimplemented0x74 => 0x74#7
  | .unimplemented0x75 => 0x75#7
  | .unimplemented0x76 => 0x76#7
  | .unimplemented0x77 => 0x77#7
  | .unimplemented0x78 => 0x78#7
  | .unimplemented0x79 => 0x79#7
  | .unimplemented0x7A => 0x7A#7
  | .unimplemented0x7B => 0x7B#7
  | .unimplemented0x7C => 0x7C#7
  | .unimplemented0x7D => 0x7D#7
  | .unimplemented0x7E => 0x7E#7
  | .unimplemented0x7F => 0x7F#7

/-- `enc_ADDI(rd, rs1, imm)` (R62): the low 12 bits of the immediate, ignored bits 14:12 zero (R51). -/
def encAddi (rd rs1 : RegIdx) (imm : Word) : Word :=
  ((imm &&& 0xFFF#32) <<< 20) ||| (rs1.setWidth 32 <<< 15) ||| (rd.setWidth 32 <<< 7) ||| 0x13#32

/-- `enc_ADD(rd, rs1, rs2)` (R62): ignored bits 31:25 and 14:12 zero (R52). -/
def encAdd (rd rs1 rs2 : RegIdx) : Word :=
  (rs2.setWidth 32 <<< 20) ||| (rs1.setWidth 32 <<< 15) ||| (rd.setWidth 32 <<< 7) ||| 0x33#32

/-- The word of an unimplemented row: its opcode in bits 6:0 (R79), every unexamined bit zero. -/
def encUnimplemented (op : Opcode) : Word := op.setWidth 32

/-- The word of a well-formed instruction, its unexamined bits zero (R62, and the match values of R56; DESIGN CHOICE,
log entry 8). -/
def encode (i : Instr) : Word :=
  match i with
  | .addi rd rs1 imm => encAddi rd rs1 imm
  | .add rd rs1 rs2 => encAdd rd rs1 rs2
  | .unimplemented0x00 => encUnimplemented 0x00#7
  | .unimplemented0x01 => encUnimplemented 0x01#7
  | .unimplemented0x02 => encUnimplemented 0x02#7
  | .unimplemented0x03 => encUnimplemented 0x03#7
  | .unimplemented0x04 => encUnimplemented 0x04#7
  | .unimplemented0x05 => encUnimplemented 0x05#7
  | .unimplemented0x06 => encUnimplemented 0x06#7
  | .unimplemented0x07 => encUnimplemented 0x07#7
  | .unimplemented0x08 => encUnimplemented 0x08#7
  | .unimplemented0x09 => encUnimplemented 0x09#7
  | .unimplemented0x0A => encUnimplemented 0x0A#7
  | .unimplemented0x0B => encUnimplemented 0x0B#7
  | .unimplemented0x0C => encUnimplemented 0x0C#7
  | .unimplemented0x0D => encUnimplemented 0x0D#7
  | .unimplemented0x0E => encUnimplemented 0x0E#7
  | .unimplemented0x0F => encUnimplemented 0x0F#7
  | .unimplemented0x10 => encUnimplemented 0x10#7
  | .unimplemented0x11 => encUnimplemented 0x11#7
  | .unimplemented0x12 => encUnimplemented 0x12#7
  | .unimplemented0x14 => encUnimplemented 0x14#7
  | .unimplemented0x15 => encUnimplemented 0x15#7
  | .unimplemented0x16 => encUnimplemented 0x16#7
  | .unimplemented0x17 => encUnimplemented 0x17#7
  | .unimplemented0x18 => encUnimplemented 0x18#7
  | .unimplemented0x19 => encUnimplemented 0x19#7
  | .unimplemented0x1A => encUnimplemented 0x1A#7
  | .unimplemented0x1B => encUnimplemented 0x1B#7
  | .unimplemented0x1C => encUnimplemented 0x1C#7
  | .unimplemented0x1D => encUnimplemented 0x1D#7
  | .unimplemented0x1E => encUnimplemented 0x1E#7
  | .unimplemented0x1F => encUnimplemented 0x1F#7
  | .unimplemented0x20 => encUnimplemented 0x20#7
  | .unimplemented0x21 => encUnimplemented 0x21#7
  | .unimplemented0x22 => encUnimplemented 0x22#7
  | .unimplemented0x23 => encUnimplemented 0x23#7
  | .unimplemented0x24 => encUnimplemented 0x24#7
  | .unimplemented0x25 => encUnimplemented 0x25#7
  | .unimplemented0x26 => encUnimplemented 0x26#7
  | .unimplemented0x27 => encUnimplemented 0x27#7
  | .unimplemented0x28 => encUnimplemented 0x28#7
  | .unimplemented0x29 => encUnimplemented 0x29#7
  | .unimplemented0x2A => encUnimplemented 0x2A#7
  | .unimplemented0x2B => encUnimplemented 0x2B#7
  | .unimplemented0x2C => encUnimplemented 0x2C#7
  | .unimplemented0x2D => encUnimplemented 0x2D#7
  | .unimplemented0x2E => encUnimplemented 0x2E#7
  | .unimplemented0x2F => encUnimplemented 0x2F#7
  | .unimplemented0x30 => encUnimplemented 0x30#7
  | .unimplemented0x31 => encUnimplemented 0x31#7
  | .unimplemented0x32 => encUnimplemented 0x32#7
  | .unimplemented0x34 => encUnimplemented 0x34#7
  | .unimplemented0x35 => encUnimplemented 0x35#7
  | .unimplemented0x36 => encUnimplemented 0x36#7
  | .unimplemented0x37 => encUnimplemented 0x37#7
  | .unimplemented0x38 => encUnimplemented 0x38#7
  | .unimplemented0x39 => encUnimplemented 0x39#7
  | .unimplemented0x3A => encUnimplemented 0x3A#7
  | .unimplemented0x3B => encUnimplemented 0x3B#7
  | .unimplemented0x3C => encUnimplemented 0x3C#7
  | .unimplemented0x3D => encUnimplemented 0x3D#7
  | .unimplemented0x3E => encUnimplemented 0x3E#7
  | .unimplemented0x3F => encUnimplemented 0x3F#7
  | .unimplemented0x40 => encUnimplemented 0x40#7
  | .unimplemented0x41 => encUnimplemented 0x41#7
  | .unimplemented0x42 => encUnimplemented 0x42#7
  | .unimplemented0x43 => encUnimplemented 0x43#7
  | .unimplemented0x44 => encUnimplemented 0x44#7
  | .unimplemented0x45 => encUnimplemented 0x45#7
  | .unimplemented0x46 => encUnimplemented 0x46#7
  | .unimplemented0x47 => encUnimplemented 0x47#7
  | .unimplemented0x48 => encUnimplemented 0x48#7
  | .unimplemented0x49 => encUnimplemented 0x49#7
  | .unimplemented0x4A => encUnimplemented 0x4A#7
  | .unimplemented0x4B => encUnimplemented 0x4B#7
  | .unimplemented0x4C => encUnimplemented 0x4C#7
  | .unimplemented0x4D => encUnimplemented 0x4D#7
  | .unimplemented0x4E => encUnimplemented 0x4E#7
  | .unimplemented0x4F => encUnimplemented 0x4F#7
  | .unimplemented0x50 => encUnimplemented 0x50#7
  | .unimplemented0x51 => encUnimplemented 0x51#7
  | .unimplemented0x52 => encUnimplemented 0x52#7
  | .unimplemented0x53 => encUnimplemented 0x53#7
  | .unimplemented0x54 => encUnimplemented 0x54#7
  | .unimplemented0x55 => encUnimplemented 0x55#7
  | .unimplemented0x56 => encUnimplemented 0x56#7
  | .unimplemented0x57 => encUnimplemented 0x57#7
  | .unimplemented0x58 => encUnimplemented 0x58#7
  | .unimplemented0x59 => encUnimplemented 0x59#7
  | .unimplemented0x5A => encUnimplemented 0x5A#7
  | .unimplemented0x5B => encUnimplemented 0x5B#7
  | .unimplemented0x5C => encUnimplemented 0x5C#7
  | .unimplemented0x5D => encUnimplemented 0x5D#7
  | .unimplemented0x5E => encUnimplemented 0x5E#7
  | .unimplemented0x5F => encUnimplemented 0x5F#7
  | .unimplemented0x60 => encUnimplemented 0x60#7
  | .unimplemented0x61 => encUnimplemented 0x61#7
  | .unimplemented0x62 => encUnimplemented 0x62#7
  | .unimplemented0x63 => encUnimplemented 0x63#7
  | .unimplemented0x64 => encUnimplemented 0x64#7
  | .unimplemented0x65 => encUnimplemented 0x65#7
  | .unimplemented0x66 => encUnimplemented 0x66#7
  | .unimplemented0x67 => encUnimplemented 0x67#7
  | .unimplemented0x68 => encUnimplemented 0x68#7
  | .unimplemented0x69 => encUnimplemented 0x69#7
  | .unimplemented0x6A => encUnimplemented 0x6A#7
  | .unimplemented0x6B => encUnimplemented 0x6B#7
  | .unimplemented0x6C => encUnimplemented 0x6C#7
  | .unimplemented0x6D => encUnimplemented 0x6D#7
  | .unimplemented0x6E => encUnimplemented 0x6E#7
  | .unimplemented0x6F => encUnimplemented 0x6F#7
  | .unimplemented0x70 => encUnimplemented 0x70#7
  | .unimplemented0x71 => encUnimplemented 0x71#7
  | .unimplemented0x72 => encUnimplemented 0x72#7
  | .unimplemented0x73 => encUnimplemented 0x73#7
  | .unimplemented0x74 => encUnimplemented 0x74#7
  | .unimplemented0x75 => encUnimplemented 0x75#7
  | .unimplemented0x76 => encUnimplemented 0x76#7
  | .unimplemented0x77 => encUnimplemented 0x77#7
  | .unimplemented0x78 => encUnimplemented 0x78#7
  | .unimplemented0x79 => encUnimplemented 0x79#7
  | .unimplemented0x7A => encUnimplemented 0x7A#7
  | .unimplemented0x7B => encUnimplemented 0x7B#7
  | .unimplemented0x7C => encUnimplemented 0x7C#7
  | .unimplemented0x7D => encUnimplemented 0x7D#7
  | .unimplemented0x7E => encUnimplemented 0x7E#7
  | .unimplemented0x7F => encUnimplemented 0x7F#7

/-- The bytes of an instruction as they lie in memory (R35). -/
def encodeBytes (i : Instr) : List Byte := bytesOfWord (encode i)

/-- The instruction word the host numbers as the opcode table does: nbits bits of w, every bit above them zero. -/
def tableWord (nbits w : Nat) : Word := BitVec.ofNat 32 (w % 2 ^ nbits)

/-- What the decoder reads from the bytes of a table word laid out in memory order. -/
def decodeTableWord (nbits w : Nat) : Option Instr :=
  match decodeBytes (bytesOfWord (tableWord nbits w)) with
  | .ok (i, _) => some i
  | .error _ => none

end Sys2Proof
end

