-- ==== Sys2Proof/Config.lean ====
section
/-!
DEFINITION. What is fixed before a run (R10). The core has no free value: no rule leaves a result undefined.
CAP and IMAGE are arguments of construction (Sys2Proof.Machine.State.construct), not state (R26).
-/

namespace Sys2Proof.Config

/-- The default of the capacity CAP, 128 MiB (R10, R19). A Word ranges over exactly 0 to 0xFFFFFFFF (D5). -/
def defaultCap : Word := 0x08000000#32

end Sys2Proof.Config
end

