-- ==== Sys2Proof/Machine/State.lean ====
section
/-!
DEFINITION. The state of the core (10_state.md section 1), the reasons a step can stop, and the state after reset (R105).
-/

namespace Sys2Proof.Machine

/-- The backed memory (R32): `size` is L, and exactly the addresses 0 to size - 1 hold a byte.
`cells` lists the nonzero bytes by strictly rising address; a backed address it does not list holds 0, and an address at
or above `size` holds nothing (D2; log entry 2). So each image is one Memory in canonical form, and no hole can be written down. -/
structure Memory where
  size : Nat
  cells : List Host.Cell
deriving DecidableEq, Repr

/-- The memory of the empty image (L = 0). -/
def Memory.empty : Memory := { size := 0, cells := [] }

/-- The run state (R24). -/
inductive Status where
  /-- The loop condition holds and no fault has occurred (R70). -/
  | running
  /-- The normal end of a run (R70). -/
  | halted
  /-- The abnormal end: a fetch at this address was out of range (R65, R90). -/
  | faulted (addr : Word)
deriving DecidableEq, Repr

/-- The machine state. Nothing else persists from one step to the next (10_state.md section 1, R25 to R27). -/
structure State where
  /-- x0 to x31 (R15); the cell of x0 is never read or written (R16, R17; log entry 5). -/
  regs : Vector Word 32
  /-- The program counter (R20). -/
  pc : Word
  /-- The byte memory, the image (R32, R33, R36). -/
  mem : Memory
  /-- The run state (R24). -/
  status : Status
  /-- The diagnostic stream, oldest event first; an event carries the opcode and nothing else (R31, R89). -/
  diag : List Opcode
deriving DecidableEq, Repr

/-- Why no step exists. -/
inductive Fault where
  /-- Raised by a step taken when the run has already halted: no step exists from Halted (R70). Safe. -/
  | runHalted
  /-- Raised by a step taken when the run has already faulted: AddressOutOfRange(addr) was surfaced as the terminal status
  and no step exists from Faulted (R70, R90, R103). Safe. -/
  | addressOutOfRange (addr : Word)
deriving DecidableEq, Repr

/-- Refusals. No arm of exec raises one: every row of the opcode table has its meaning. -/
inductive Refusal where
  /-- An instruction without a meaning, raised by an arm of exec only; no arm does. Safe. -/
  | notModelled (mnemonic : String)
deriving DecidableEq, Repr

/-- All registers zero but x2, which is CAP (R19). -/
def initialRegs (cap : Word) : Vector Word 32 := (Vector.replicate 32 0#32).set 2 cap

/-- The status at construction: Running when L > 0, Halted when L = 0 (R24, R105). -/
def initialStatus (mem : Memory) : Status := if mem.size = 0 then .halted else .running

/-- The state construction leaves, from the capacity and the loaded image (R105). -/
def State.initial (cap : Word) (mem : Memory) : State :=
  { regs := initialRegs cap, pc := 0#32, mem := mem, status := initialStatus mem, diag := [] }

/-- Reset is construction (R105). DESIGN CHOICE (log entry 1): the image is an argument the spec gives no default of, so
State.reset is construction with the empty image, and with the default CAP. -/
def State.reset : State := State.initial Config.defaultCap Memory.empty

end Sys2Proof.Machine
end

