-- ==== Sys2Proof/Machine/Ops.lean ====
section
/-!
DEFINITION. The named operations over registers, memory, the pc, the status and the diagnostic stream, the one exception
of the core, and the host's construction and outputs.
-/

namespace Sys2Proof.Machine

/-! ### Registers -/

/-- `x[i]`: x0 reads 0 (R12, R16). -/
def State.readReg (s : State) (i : RegIdx) : Word :=
  if i = 0#5 then 0#32 else s.regs[i.toNat]'(i.isLt)

/-- `x[i] <- v`: a write to x0 is discarded (R12, R17). -/
def State.writeReg (s : State) (i : RegIdx) (v : Word) : State :=
  if i = 0#5 then s else { s with regs := s.regs.set i.toNat v i.isLt }

/-! ### Memory -/

/-- The byte a list of cells gives an address: 0 where none is listed. -/
def cellAt (cells : List Host.Cell) (a : Nat) : Byte :=
  match cells with
  | [] => 0#8
  | (b, v) :: rest => if a = b then v else cellAt rest a

/-- A cell as the canonical form keeps it: a zero byte is not listed. -/
def consCell (a : Nat) (v : Byte) (cells : List Host.Cell) : List Host.Cell :=
  if v = 0#8 then cells else (a, v) :: cells

/-- Put a byte into a sorted list of cells. -/
def insertCell (cells : List Host.Cell) (a : Nat) (v : Byte) : List Host.Cell :=
  match cells with
  | [] => consCell a v []
  | (b, u) :: rest =>
    if a < b then consCell a v ((b, u) :: rest)
    else if a = b then consCell a v rest
    else (b, u) :: insertCell rest a v

/-- The cells of an image laid out from address a on (R33). -/
def cellsFrom (a : Nat) (image : List Byte) : List Host.Cell :=
  match image with
  | [] => []
  | v :: rest => consCell a v (cellsFrom (a + 1) rest)

/-- Cells in canonical form between lo and hi: strictly rising addresses, no byte 0 listed. -/
def cellsWf (lo hi : Nat) (cells : List Host.Cell) : Bool :=
  match cells with
  | [] => true
  | (a, v) :: rest => decide (lo ≤ a) && decide (a < hi) && decide (v ≠ 0#8) && cellsWf (a + 1) hi rest

/-- The canonical form of a memory: cells sorted, none zero, all of them backed. -/
def Memory.wf (m : Memory) : Bool := cellsWf 0 m.size m.cells

/-- One byte: none at an address that is not backed (R32, D2). -/
def Memory.read (m : Memory) (a : Nat) : Option Byte :=
  if a < m.size then some (cellAt m.cells a) else none

/-- `MemRead(addr, 4)` (R34, R35): none is `raise AddressOutOfRange(addr)`. The bounds check does not wrap. -/
def Memory.readWord (m : Memory) (addr : Word) : Option Word :=
  if addr.toNat + 4 > m.size then none
  else some (wordOfBytes (cellAt m.cells addr.toNat) (cellAt m.cells (addr.toNat + 1)) (cellAt m.cells (addr.toNat + 2))
    (cellAt m.cells (addr.toNat + 3)))

/-- The memory that holds an image at 0 to L - 1 (R33). -/
def Memory.ofImage (image : List Byte) : Memory :=
  { size := image.length, cells := cellsFrom 0 image }

/-- Place one byte from outside the machine, backing its address if it was not (only withFetchWord uses it: no rule of the
core writes memory, R36). -/
def Memory.place (m : Memory) (a : Nat) (v : Byte) : Memory :=
  { size := max m.size (a + 1), cells := insertCell m.cells a v }

/-- Place the four bytes of a word from outside the machine, in little-endian order (R35). -/
def Memory.placeWord (m : Memory) (a : Nat) (w : Word) : Memory :=
  (((m.place a (byteOfWord w 0)).place (a + 1) (byteOfWord w 1)).place (a + 2) (byteOfWord w 2)).place (a + 3) (byteOfWord w 3)

/-! ### The run loop's operations -/

/-- Fetch (R65, R66): the word at pc, or none where the fetch is out of range. -/
def State.fetchWord (s : State) : Option Word := s.mem.readWord s.pc

/-- `pc <- pc + 4` mod 2^32 (R23, R67). -/
def State.advancePc (s : State) : State := { s with pc := s.pc + 4#32 }

/-- `emit Diag(op)`: append one event to the diagnostic stream (R12, R31, R89). -/
def State.emitDiag (s : State) (op : Opcode) : State := { s with diag := s.diag ++ [op] }

/-- Taking the core's one exception, AddressOutOfRange(addr) (R12, R90): the run ends Faulted(addr), with the pc, the
registers, memory and the diagnostic stream as they were. There is no handler (R94) and no return from it (R95). -/
def State.raiseAddressOutOfRange (s : State) (addr : Word) : State := { s with status := .faulted addr }

/-- The loop condition after a successful step: Halted once pc >= L (R64, R70). -/
def State.haltCheck (s : State) : State :=
  if s.mem.size ≤ s.pc.toNat then { s with status := .halted } else s

/-! ### Construction and the outputs -/

/-- `Construct(IMAGE)` with capacity CAP (R105). None: an image longer than CAP makes no machine (R106). -/
def State.construct (cap : Word) (image : List Byte) : Option State :=
  if image.length ≤ cap.toNat then some (State.initial cap (Memory.ofImage image)) else none

/-- DumpRegisters (R29): x[0] to x[31] in index order, each as a read gives it. -/
def State.snapshot (s : State) : List Word := (List.range 32).map fun i => s.readReg (BitVec.ofNat 5 i)

/-- The status output (R30): status and pc. -/
def State.statusOutput (s : State) : Status × Word := (s.status, s.pc)

/-- The diagnostic output (R31), oldest event first. -/
def State.diagnostics (s : State) : List Opcode := s.diag

end Sys2Proof.Machine
end

