-- ==== Sys2Proof/Machine/Operands.lean ====
section
/-!
DEFINITION. The operand forms of the two formats (R51, R52) and the destination. Both sources are read from the state
before the destination is written (R69, R111).
-/

namespace Sys2Proof.Machine

/-- I-type sources: `x[rs1]` and the immediate, which Decode has sign-extended (R51, R53). -/
def iTypeSources (s : State) (rs1 : RegIdx) (imm : Word) : Word × Word := (s.readReg rs1, imm)

/-- R-type sources: `x[rs1]` and `x[rs2]` (R52). -/
def rTypeSources (s : State) (rs1 rs2 : RegIdx) : Word × Word := (s.readReg rs1, s.readReg rs2)

/-- The destination register of both formats: the result goes to `x[rd]`, and is discarded for rd = 0 (R17). -/
def writeDest (s : State) (rd : RegIdx) (v : Word) : State := s.writeReg rd v

end Sys2Proof.Machine
end

