-- ==== Sys2Proof/Machine/IntegerAlu.lean ====
section
/-!
DEFINITION. The integer ALU instructions (41_integer_alu.md). The pc was advanced before they run (R67).
Standard OP-IMM, OP and RV32M words of every funct3 and funct7 come here as ADDI or ADD (R78).
-/

namespace Sys2Proof.Machine

/-- ADDI: `x[rd] <- (x[rs1] + sext_12(imm)) mod 2^32` (R75). -/
def execAddi (rd rs1 : RegIdx) (imm : Word) (s : State) : Host.Outcome State Fault Refusal :=
  let (a, b) := iTypeSources s rs1 imm
  .next (writeDest s rd (aluAdd a b))

/-- ADD: `x[rd] <- (x[rs1] + x[rs2]) mod 2^32` (R77). -/
def execAdd (rd rs1 rs2 : RegIdx) (s : State) : Host.Outcome State Fault Refusal :=
  let (a, b) := rTypeSources s rs1 rs2
  .next (writeDest s rd (aluAdd a b))

end Sys2Proof.Machine
end

