-- ==== Sys2Proof/Machine/Unimplemented.lean ====
section
/-!
DEFINITION. The unimplemented opcodes (42_unimplemented.md): 126 rows of the opcode table with the one behaviour of R79.
R81 to R87 say which standard instruction classes fall under it.
-/

namespace Sys2Proof.Machine

/-- `emit Diag(op)` and no other change; the pc was already advanced (R79, R80). -/
def unimplemented (op : Opcode) (s : State) : Host.Outcome State Fault Refusal := .next (s.emitDiag op)

/-- UNIMPLEMENTED_0x00 (R79). -/
def execUnimplemented0x00 (s : State) : Host.Outcome State Fault Refusal := unimplemented 0x00#7 s

/-- UNIMPLEMENTED_0x01 (R79). -/
def execUnimplemented0x01 (s : State) : Host.Outcome State Fault Refusal := unimplemented 0x01#7 s

/-- UNIMPLEMENTED_0x02 (R79). -/
def execUnimplemented0x02 (s : State) : Host.Outcome State Fault Refusal := unimplemented 0x02#7 s

/-- UNIMPLEMENTED_0x03 (R79). Standard class: LOAD (LB/LH/LW/LBU/LHU). -/
def execUnimplemented0x03 (s : State) : Host.Outcome State Fault Refusal := unimplemented 0x03#7 s

/-- UNIMPLEMENTED_0x04 (R79). -/
def execUnimplemented0x04 (s : State) : Host.Outcome State Fault Refusal := unimplemented 0x04#7 s

/-- UNIMPLEMENTED_0x05 (R79). -/
def execUnimplemented0x05 (s : State) : Host.Outcome State Fault Refusal := unimplemented 0x05#7 s

/-- UNIMPLEMENTED_0x06 (R79). -/
def execUnimplemented0x06 (s : State) : Host.Outcome State Fault Refusal := unimplemented 0x06#7 s

/-- UNIMPLEMENTED_0x07 (R79). Standard class: LOAD-FP. -/
def execUnimplemented0x07 (s : State) : Host.Outcome State Fault Refusal := unimplemented 0x07#7 s

/-- UNIMPLEMENTED_0x08 (R79). -/
def execUnimplemented0x08 (s : State) : Host.Outcome State Fault Refusal := unimplemented 0x08#7 s

/-- UNIMPLEMENTED_0x09 (R79). -/
def execUnimplemented0x09 (s : State) : Host.Outcome State Fault Refusal := unimplemented 0x09#7 s

/-- UNIMPLEMENTED_0x0A (R79). -/
def execUnimplemented0x0A (s : State) : Host.Outcome State Fault Refusal := unimplemented 0x0A#7 s

/-- UNIMPLEMENTED_0x0B (R79). Standard class: custom-0. -/
def execUnimplemented0x0B (s : State) : Host.Outcome State Fault Refusal := unimplemented 0x0B#7 s

/-- UNIMPLEMENTED_0x0C (R79). -/
def execUnimplemented0x0C (s : State) : Host.Outcome State Fault Refusal := unimplemented 0x0C#7 s

/-- UNIMPLEMENTED_0x0D (R79). -/
def execUnimplemented0x0D (s : State) : Host.Outcome State Fault Refusal := unimplemented 0x0D#7 s

/-- UNIMPLEMENTED_0x0E (R79). -/
def execUnimplemented0x0E (s : State) : Host.Outcome State Fault Refusal := unimplemented 0x0E#7 s

/-- UNIMPLEMENTED_0x0F (R79). Standard class: MISC-MEM (FENCE, FENCE.I). -/
def execUnimplemented0x0F (s : State) : Host.Outcome State Fault Refusal := unimplemented 0x0F#7 s

/-- UNIMPLEMENTED_0x10 (R79). -/
def execUnimplemented0x10 (s : State) : Host.Outcome State Fault Refusal := unimplemented 0x10#7 s

/-- UNIMPLEMENTED_0x11 (R79). -/
def execUnimplemented0x11 (s : State) : Host.Outcome State Fault Refusal := unimplemented 0x11#7 s

/-- UNIMPLEMENTED_0x12 (R79). -/
def execUnimplemented0x12 (s : State) : Host.Outcome State Fault Refusal := unimplemented 0x12#7 s

/-- UNIMPLEMENTED_0x14 (R79). -/
def execUnimplemented0x14 (s : State) : Host.Outcome State Fault Refusal := unimplemented 0x14#7 s

/-- UNIMPLEMENTED_0x15 (R79). -/
def execUnimplemented0x15 (s : State) : Host.Outcome State Fault Refusal := unimplemented 0x15#7 s

/-- UNIMPLEMENTED_0x16 (R79). -/
def execUnimplemented0x16 (s : State) : Host.Outcome State Fault Refusal := unimplemented 0x16#7 s

/-- UNIMPLEMENTED_0x17 (R79). Standard class: AUIPC. -/
def execUnimplemented0x17 (s : State) : Host.Outcome State Fault Refusal := unimplemented 0x17#7 s

/-- UNIMPLEMENTED_0x18 (R79). -/
def execUnimplemented0x18 (s : State) : Host.Outcome State Fault Refusal := unimplemented 0x18#7 s

/-- UNIMPLEMENTED_0x19 (R79). -/
def execUnimplemented0x19 (s : State) : Host.Outcome State Fault Refusal := unimplemented 0x19#7 s

/-- UNIMPLEMENTED_0x1A (R79). -/
def execUnimplemented0x1A (s : State) : Host.Outcome State Fault Refusal := unimplemented 0x1A#7 s

/-- UNIMPLEMENTED_0x1B (R79). Standard class: OP-IMM-32 (RV64). -/
def execUnimplemented0x1B (s : State) : Host.Outcome State Fault Refusal := unimplemented 0x1B#7 s

/-- UNIMPLEMENTED_0x1C (R79). -/
def execUnimplemented0x1C (s : State) : Host.Outcome State Fault Refusal := unimplemented 0x1C#7 s

/-- UNIMPLEMENTED_0x1D (R79). -/
def execUnimplemented0x1D (s : State) : Host.Outcome State Fault Refusal := unimplemented 0x1D#7 s

/-- UNIMPLEMENTED_0x1E (R79). -/
def execUnimplemented0x1E (s : State) : Host.Outcome State Fault Refusal := unimplemented 0x1E#7 s

/-- UNIMPLEMENTED_0x1F (R79). -/
def execUnimplemented0x1F (s : State) : Host.Outcome State Fault Refusal := unimplemented 0x1F#7 s

/-- UNIMPLEMENTED_0x20 (R79). -/
def execUnimplemented0x20 (s : State) : Host.Outcome State Fault Refusal := unimplemented 0x20#7 s

/-- UNIMPLEMENTED_0x21 (R79). -/
def execUnimplemented0x21 (s : State) : Host.Outcome State Fault Refusal := unimplemented 0x21#7 s

/-- UNIMPLEMENTED_0x22 (R79). -/
def execUnimplemented0x22 (s : State) : Host.Outcome State Fault Refusal := unimplemented 0x22#7 s

/-- UNIMPLEMENTED_0x23 (R79). Standard class: STORE (SB/SH/SW). -/
def execUnimplemented0x23 (s : State) : Host.Outcome State Fault Refusal := unimplemented 0x23#7 s

/-- UNIMPLEMENTED_0x24 (R79). -/
def execUnimplemented0x24 (s : State) : Host.Outcome State Fault Refusal := unimplemented 0x24#7 s

/-- UNIMPLEMENTED_0x25 (R79). -/
def execUnimplemented0x25 (s : State) : Host.Outcome State Fault Refusal := unimplemented 0x25#7 s

/-- UNIMPLEMENTED_0x26 (R79). -/
def execUnimplemented0x26 (s : State) : Host.Outcome State Fault Refusal := unimplemented 0x26#7 s

/-- UNIMPLEMENTED_0x27 (R79). Standard class: STORE-FP. -/
def execUnimplemented0x27 (s : State) : Host.Outcome State Fault Refusal := unimplemented 0x27#7 s

/-- UNIMPLEMENTED_0x28 (R79). -/
def execUnimplemented0x28 (s : State) : Host.Outcome State Fault Refusal := unimplemented 0x28#7 s

/-- UNIMPLEMENTED_0x29 (R79). -/
def execUnimplemented0x29 (s : State) : Host.Outcome State Fault Refusal := unimplemented 0x29#7 s

/-- UNIMPLEMENTED_0x2A (R79). -/
def execUnimplemented0x2A (s : State) : Host.Outcome State Fault Refusal := unimplemented 0x2A#7 s

/-- UNIMPLEMENTED_0x2B (R79). Standard class: custom-1. -/
def execUnimplemented0x2B (s : State) : Host.Outcome State Fault Refusal := unimplemented 0x2B#7 s

/-- UNIMPLEMENTED_0x2C (R79). -/
def execUnimplemented0x2C (s : State) : Host.Outcome State Fault Refusal := unimplemented 0x2C#7 s

/-- UNIMPLEMENTED_0x2D (R79). -/
def execUnimplemented0x2D (s : State) : Host.Outcome State Fault Refusal := unimplemented 0x2D#7 s

/-- UNIMPLEMENTED_0x2E (R79). -/
def execUnimplemented0x2E (s : State) : Host.Outcome State Fault Refusal := unimplemented 0x2E#7 s

/-- UNIMPLEMENTED_0x2F (R79). Standard class: AMO. -/
def execUnimplemented0x2F (s : State) : Host.Outcome State Fault Refusal := unimplemented 0x2F#7 s

/-- UNIMPLEMENTED_0x30 (R79). -/
def execUnimplemented0x30 (s : State) : Host.Outcome State Fault Refusal := unimplemented 0x30#7 s

/-- UNIMPLEMENTED_0x31 (R79). -/
def execUnimplemented0x31 (s : State) : Host.Outcome State Fault Refusal := unimplemented 0x31#7 s

/-- UNIMPLEMENTED_0x32 (R79). -/
def execUnimplemented0x32 (s : State) : Host.Outcome State Fault Refusal := unimplemented 0x32#7 s

/-- UNIMPLEMENTED_0x34 (R79). -/
def execUnimplemented0x34 (s : State) : Host.Outcome State Fault Refusal := unimplemented 0x34#7 s

/-- UNIMPLEMENTED_0x35 (R79). -/
def execUnimplemented0x35 (s : State) : Host.Outcome State Fault Refusal := unimplemented 0x35#7 s

/-- UNIMPLEMENTED_0x36 (R79). -/
def execUnimplemented0x36 (s : State) : Host.Outcome State Fault Refusal := unimplemented 0x36#7 s

/-- UNIMPLEMENTED_0x37 (R79). Standard class: LUI. -/
def execUnimplemented0x37 (s : State) : Host.Outcome State Fault Refusal := unimplemented 0x37#7 s

/-- UNIMPLEMENTED_0x38 (R79). -/
def execUnimplemented0x38 (s : State) : Host.Outcome State Fault Refusal := unimplemented 0x38#7 s

/-- UNIMPLEMENTED_0x39 (R79). -/
def execUnimplemented0x39 (s : State) : Host.Outcome State Fault Refusal := unimplemented 0x39#7 s

/-- UNIMPLEMENTED_0x3A (R79). -/
def execUnimplemented0x3A (s : State) : Host.Outcome State Fault Refusal := unimplemented 0x3A#7 s

/-- UNIMPLEMENTED_0x3B (R79). Standard class: OP-32 (RV64). -/
def execUnimplemented0x3B (s : State) : Host.Outcome State Fault Refusal := unimplemented 0x3B#7 s

/-- UNIMPLEMENTED_0x3C (R79). -/
def execUnimplemented0x3C (s : State) : Host.Outcome State Fault Refusal := unimplemented 0x3C#7 s

/-- UNIMPLEMENTED_0x3D (R79). -/
def execUnimplemented0x3D (s : State) : Host.Outcome State Fault Refusal := unimplemented 0x3D#7 s

/-- UNIMPLEMENTED_0x3E (R79). -/
def execUnimplemented0x3E (s : State) : Host.Outcome State Fault Refusal := unimplemented 0x3E#7 s

/-- UNIMPLEMENTED_0x3F (R79). -/
def execUnimplemented0x3F (s : State) : Host.Outcome State Fault Refusal := unimplemented 0x3F#7 s

/-- UNIMPLEMENTED_0x40 (R79). -/
def execUnimplemented0x40 (s : State) : Host.Outcome State Fault Refusal := unimplemented 0x40#7 s

/-- UNIMPLEMENTED_0x41 (R79). -/
def execUnimplemented0x41 (s : State) : Host.Outcome State Fault Refusal := unimplemented 0x41#7 s

/-- UNIMPLEMENTED_0x42 (R79). -/
def execUnimplemented0x42 (s : State) : Host.Outcome State Fault Refusal := unimplemented 0x42#7 s

/-- UNIMPLEMENTED_0x43 (R79). Standard class: MADD. -/
def execUnimplemented0x43 (s : State) : Host.Outcome State Fault Refusal := unimplemented 0x43#7 s

/-- UNIMPLEMENTED_0x44 (R79). -/
def execUnimplemented0x44 (s : State) : Host.Outcome State Fault Refusal := unimplemented 0x44#7 s

/-- UNIMPLEMENTED_0x45 (R79). -/
def execUnimplemented0x45 (s : State) : Host.Outcome State Fault Refusal := unimplemented 0x45#7 s

/-- UNIMPLEMENTED_0x46 (R79). -/
def execUnimplemented0x46 (s : State) : Host.Outcome State Fault Refusal := unimplemented 0x46#7 s

/-- UNIMPLEMENTED_0x47 (R79). Standard class: MSUB. -/
def execUnimplemented0x47 (s : State) : Host.Outcome State Fault Refusal := unimplemented 0x47#7 s

/-- UNIMPLEMENTED_0x48 (R79). -/
def execUnimplemented0x48 (s : State) : Host.Outcome State Fault Refusal := unimplemented 0x48#7 s

/-- UNIMPLEMENTED_0x49 (R79). -/
def execUnimplemented0x49 (s : State) : Host.Outcome State Fault Refusal := unimplemented 0x49#7 s

/-- UNIMPLEMENTED_0x4A (R79). -/
def execUnimplemented0x4A (s : State) : Host.Outcome State Fault Refusal := unimplemented 0x4A#7 s

/-- UNIMPLEMENTED_0x4B (R79). Standard class: NMSUB. -/
def execUnimplemented0x4B (s : State) : Host.Outcome State Fault Refusal := unimplemented 0x4B#7 s

/-- UNIMPLEMENTED_0x4C (R79). -/
def execUnimplemented0x4C (s : State) : Host.Outcome State Fault Refusal := unimplemented 0x4C#7 s

/-- UNIMPLEMENTED_0x4D (R79). -/
def execUnimplemented0x4D (s : State) : Host.Outcome State Fault Refusal := unimplemented 0x4D#7 s

/-- UNIMPLEMENTED_0x4E (R79). -/
def execUnimplemented0x4E (s : State) : Host.Outcome State Fault Refusal := unimplemented 0x4E#7 s

/-- UNIMPLEMENTED_0x4F (R79). Standard class: NMADD. -/
def execUnimplemented0x4F (s : State) : Host.Outcome State Fault Refusal := unimplemented 0x4F#7 s

/-- UNIMPLEMENTED_0x50 (R79). -/
def execUnimplemented0x50 (s : State) : Host.Outcome State Fault Refusal := unimplemented 0x50#7 s

/-- UNIMPLEMENTED_0x51 (R79). -/
def execUnimplemented0x51 (s : State) : Host.Outcome State Fault Refusal := unimplemented 0x51#7 s

/-- UNIMPLEMENTED_0x52 (R79). -/
def execUnimplemented0x52 (s : State) : Host.Outcome State Fault Refusal := unimplemented 0x52#7 s

/-- UNIMPLEMENTED_0x53 (R79). Standard class: OP-FP. -/
def execUnimplemented0x53 (s : State) : Host.Outcome State Fault Refusal := unimplemented 0x53#7 s

/-- UNIMPLEMENTED_0x54 (R79). -/
def execUnimplemented0x54 (s : State) : Host.Outcome State Fault Refusal := unimplemented 0x54#7 s

/-- UNIMPLEMENTED_0x55 (R79). -/
def execUnimplemented0x55 (s : State) : Host.Outcome State Fault Refusal := unimplemented 0x55#7 s

/-- UNIMPLEMENTED_0x56 (R79). -/
def execUnimplemented0x56 (s : State) : Host.Outcome State Fault Refusal := unimplemented 0x56#7 s

/-- UNIMPLEMENTED_0x57 (R79). Standard class: OP-V. -/
def execUnimplemented0x57 (s : State) : Host.Outcome State Fault Refusal := unimplemented 0x57#7 s

/-- UNIMPLEMENTED_0x58 (R79). -/
def execUnimplemented0x58 (s : State) : Host.Outcome State Fault Refusal := unimplemented 0x58#7 s

/-- UNIMPLEMENTED_0x59 (R79). -/
def execUnimplemented0x59 (s : State) : Host.Outcome State Fault Refusal := unimplemented 0x59#7 s

/-- UNIMPLEMENTED_0x5A (R79). -/
def execUnimplemented0x5A (s : State) : Host.Outcome State Fault Refusal := unimplemented 0x5A#7 s

/-- UNIMPLEMENTED_0x5B (R79). Standard class: custom-2. -/
def execUnimplemented0x5B (s : State) : Host.Outcome State Fault Refusal := unimplemented 0x5B#7 s

/-- UNIMPLEMENTED_0x5C (R79). -/
def execUnimplemented0x5C (s : State) : Host.Outcome State Fault Refusal := unimplemented 0x5C#7 s

/-- UNIMPLEMENTED_0x5D (R79). -/
def execUnimplemented0x5D (s : State) : Host.Outcome State Fault Refusal := unimplemented 0x5D#7 s

/-- UNIMPLEMENTED_0x5E (R79). -/
def execUnimplemented0x5E (s : State) : Host.Outcome State Fault Refusal := unimplemented 0x5E#7 s

/-- UNIMPLEMENTED_0x5F (R79). -/
def execUnimplemented0x5F (s : State) : Host.Outcome State Fault Refusal := unimplemented 0x5F#7 s

/-- UNIMPLEMENTED_0x60 (R79). -/
def execUnimplemented0x60 (s : State) : Host.Outcome State Fault Refusal := unimplemented 0x60#7 s

/-- UNIMPLEMENTED_0x61 (R79). -/
def execUnimplemented0x61 (s : State) : Host.Outcome State Fault Refusal := unimplemented 0x61#7 s

/-- UNIMPLEMENTED_0x62 (R79). -/
def execUnimplemented0x62 (s : State) : Host.Outcome State Fault Refusal := unimplemented 0x62#7 s

/-- UNIMPLEMENTED_0x63 (R79). Standard class: BRANCH (BEQ/BNE/BLT/BGE/BLTU/BGEU). -/
def execUnimplemented0x63 (s : State) : Host.Outcome State Fault Refusal := unimplemented 0x63#7 s

/-- UNIMPLEMENTED_0x64 (R79). -/
def execUnimplemented0x64 (s : State) : Host.Outcome State Fault Refusal := unimplemented 0x64#7 s

/-- UNIMPLEMENTED_0x65 (R79). -/
def execUnimplemented0x65 (s : State) : Host.Outcome State Fault Refusal := unimplemented 0x65#7 s

/-- UNIMPLEMENTED_0x66 (R79). -/
def execUnimplemented0x66 (s : State) : Host.Outcome State Fault Refusal := unimplemented 0x66#7 s

/-- UNIMPLEMENTED_0x67 (R79). Standard class: JALR. -/
def execUnimplemented0x67 (s : State) : Host.Outcome State Fault Refusal := unimplemented 0x67#7 s

/-- UNIMPLEMENTED_0x68 (R79). -/
def execUnimplemented0x68 (s : State) : Host.Outcome State Fault Refusal := unimplemented 0x68#7 s

/-- UNIMPLEMENTED_0x69 (R79). -/
def execUnimplemented0x69 (s : State) : Host.Outcome State Fault Refusal := unimplemented 0x69#7 s

/-- UNIMPLEMENTED_0x6A (R79). -/
def execUnimplemented0x6A (s : State) : Host.Outcome State Fault Refusal := unimplemented 0x6A#7 s

/-- UNIMPLEMENTED_0x6B (R79). -/
def execUnimplemented0x6B (s : State) : Host.Outcome State Fault Refusal := unimplemented 0x6B#7 s

/-- UNIMPLEMENTED_0x6C (R79). -/
def execUnimplemented0x6C (s : State) : Host.Outcome State Fault Refusal := unimplemented 0x6C#7 s

/-- UNIMPLEMENTED_0x6D (R79). -/
def execUnimplemented0x6D (s : State) : Host.Outcome State Fault Refusal := unimplemented 0x6D#7 s

/-- UNIMPLEMENTED_0x6E (R79). -/
def execUnimplemented0x6E (s : State) : Host.Outcome State Fault Refusal := unimplemented 0x6E#7 s

/-- UNIMPLEMENTED_0x6F (R79). Standard class: JAL. -/
def execUnimplemented0x6F (s : State) : Host.Outcome State Fault Refusal := unimplemented 0x6F#7 s

/-- UNIMPLEMENTED_0x70 (R79). -/
def execUnimplemented0x70 (s : State) : Host.Outcome State Fault Refusal := unimplemented 0x70#7 s

/-- UNIMPLEMENTED_0x71 (R79). -/
def execUnimplemented0x71 (s : State) : Host.Outcome State Fault Refusal := unimplemented 0x71#7 s

/-- UNIMPLEMENTED_0x72 (R79). -/
def execUnimplemented0x72 (s : State) : Host.Outcome State Fault Refusal := unimplemented 0x72#7 s

/-- UNIMPLEMENTED_0x73 (R79). Standard class: SYSTEM (ECALL/EBREAK/CSR*/MRET/WFI). -/
def execUnimplemented0x73 (s : State) : Host.Outcome State Fault Refusal := unimplemented 0x73#7 s

/-- UNIMPLEMENTED_0x74 (R79). -/
def execUnimplemented0x74 (s : State) : Host.Outcome State Fault Refusal := unimplemented 0x74#7 s

/-- UNIMPLEMENTED_0x75 (R79). -/
def execUnimplemented0x75 (s : State) : Host.Outcome State Fault Refusal := unimplemented 0x75#7 s

/-- UNIMPLEMENTED_0x76 (R79). -/
def execUnimplemented0x76 (s : State) : Host.Outcome State Fault Refusal := unimplemented 0x76#7 s

/-- UNIMPLEMENTED_0x77 (R79). -/
def execUnimplemented0x77 (s : State) : Host.Outcome State Fault Refusal := unimplemented 0x77#7 s

/-- UNIMPLEMENTED_0x78 (R79). -/
def execUnimplemented0x78 (s : State) : Host.Outcome State Fault Refusal := unimplemented 0x78#7 s

/-- UNIMPLEMENTED_0x79 (R79). -/
def execUnimplemented0x79 (s : State) : Host.Outcome State Fault Refusal := unimplemented 0x79#7 s

/-- UNIMPLEMENTED_0x7A (R79). -/
def execUnimplemented0x7A (s : State) : Host.Outcome State Fault Refusal := unimplemented 0x7A#7 s

/-- UNIMPLEMENTED_0x7B (R79). Standard class: custom-3. -/
def execUnimplemented0x7B (s : State) : Host.Outcome State Fault Refusal := unimplemented 0x7B#7 s

/-- UNIMPLEMENTED_0x7C (R79). -/
def execUnimplemented0x7C (s : State) : Host.Outcome State Fault Refusal := unimplemented 0x7C#7 s

/-- UNIMPLEMENTED_0x7D (R79). -/
def execUnimplemented0x7D (s : State) : Host.Outcome State Fault Refusal := unimplemented 0x7D#7 s

/-- UNIMPLEMENTED_0x7E (R79). -/
def execUnimplemented0x7E (s : State) : Host.Outcome State Fault Refusal := unimplemented 0x7E#7 s

/-- UNIMPLEMENTED_0x7F (R79). -/
def execUnimplemented0x7F (s : State) : Host.Outcome State Fault Refusal := unimplemented 0x7F#7 s

end Sys2Proof.Machine
end

