-- ==== Sys2Proof/Machine/Dispatch.lean ====
section
/-!
DEFINITION. Execute (R69): one arm per constructor of Instr, each one direct call of its meaning.
-/

namespace Sys2Proof.Machine

def exec (i : Instr) (s : State) : Host.Outcome State Fault Refusal :=
  match i with
  | .addi rd rs1 imm => Sys2Proof.Machine.execAddi rd rs1 imm s
  | .add rd rs1 rs2 => Sys2Proof.Machine.execAdd rd rs1 rs2 s
  | .unimplemented0x00 => Sys2Proof.Machine.execUnimplemented0x00 s
  | .unimplemented0x01 => Sys2Proof.Machine.execUnimplemented0x01 s
  | .unimplemented0x02 => Sys2Proof.Machine.execUnimplemented0x02 s
  | .unimplemented0x03 => Sys2Proof.Machine.execUnimplemented0x03 s
  | .unimplemented0x04 => Sys2Proof.Machine.execUnimplemented0x04 s
  | .unimplemented0x05 => Sys2Proof.Machine.execUnimplemented0x05 s
  | .unimplemented0x06 => Sys2Proof.Machine.execUnimplemented0x06 s
  | .unimplemented0x07 => Sys2Proof.Machine.execUnimplemented0x07 s
  | .unimplemented0x08 => Sys2Proof.Machine.execUnimplemented0x08 s
  | .unimplemented0x09 => Sys2Proof.Machine.execUnimplemented0x09 s
  | .unimplemented0x0A => Sys2Proof.Machine.execUnimplemented0x0A s
  | .unimplemented0x0B => Sys2Proof.Machine.execUnimplemented0x0B s
  | .unimplemented0x0C => Sys2Proof.Machine.execUnimplemented0x0C s
  | .unimplemented0x0D => Sys2Proof.Machine.execUnimplemented0x0D s
  | .unimplemented0x0E => Sys2Proof.Machine.execUnimplemented0x0E s
  | .unimplemented0x0F => Sys2Proof.Machine.execUnimplemented0x0F s
  | .unimplemented0x10 => Sys2Proof.Machine.execUnimplemented0x10 s
  | .unimplemented0x11 => Sys2Proof.Machine.execUnimplemented0x11 s
  | .unimplemented0x12 => Sys2Proof.Machine.execUnimplemented0x12 s
  | .unimplemented0x14 => Sys2Proof.Machine.execUnimplemented0x14 s
  | .unimplemented0x15 => Sys2Proof.Machine.execUnimplemented0x15 s
  | .unimplemented0x16 => Sys2Proof.Machine.execUnimplemented0x16 s
  | .unimplemented0x17 => Sys2Proof.Machine.execUnimplemented0x17 s
  | .unimplemented0x18 => Sys2Proof.Machine.execUnimplemented0x18 s
  | .unimplemented0x19 => Sys2Proof.Machine.execUnimplemented0x19 s
  | .unimplemented0x1A => Sys2Proof.Machine.execUnimplemented0x1A s
  | .unimplemented0x1B => Sys2Proof.Machine.execUnimplemented0x1B s
  | .unimplemented0x1C => Sys2Proof.Machine.execUnimplemented0x1C s
  | .unimplemented0x1D => Sys2Proof.Machine.execUnimplemented0x1D s
  | .unimplemented0x1E => Sys2Proof.Machine.execUnimplemented0x1E s
  | .unimplemented0x1F => Sys2Proof.Machine.execUnimplemented0x1F s
  | .unimplemented0x20 => Sys2Proof.Machine.execUnimplemented0x20 s
  | .unimplemented0x21 => Sys2Proof.Machine.execUnimplemented0x21 s
  | .unimplemented0x22 => Sys2Proof.Machine.execUnimplemented0x22 s
  | .unimplemented0x23 => Sys2Proof.Machine.execUnimplemented0x23 s
  | .unimplemented0x24 => Sys2Proof.Machine.execUnimplemented0x24 s
  | .unimplemented0x25 => Sys2Proof.Machine.execUnimplemented0x25 s
  | .unimplemented0x26 => Sys2Proof.Machine.execUnimplemented0x26 s
  | .unimplemented0x27 => Sys2Proof.Machine.execUnimplemented0x27 s
  | .unimplemented0x28 => Sys2Proof.Machine.execUnimplemented0x28 s
  | .unimplemented0x29 => Sys2Proof.Machine.execUnimplemented0x29 s
  | .unimplemented0x2A => Sys2Proof.Machine.execUnimplemented0x2A s
  | .unimplemented0x2B => Sys2Proof.Machine.execUnimplemented0x2B s
  | .unimplemented0x2C => Sys2Proof.Machine.execUnimplemented0x2C s
  | .unimplemented0x2D => Sys2Proof.Machine.execUnimplemented0x2D s
  | .unimplemented0x2E => Sys2Proof.Machine.execUnimplemented0x2E s
  | .unimplemented0x2F => Sys2Proof.Machine.execUnimplemented0x2F s
  | .unimplemented0x30 => Sys2Proof.Machine.execUnimplemented0x30 s
  | .unimplemented0x31 => Sys2Proof.Machine.execUnimplemented0x31 s
  | .unimplemented0x32 => Sys2Proof.Machine.execUnimplemented0x32 s
  | .unimplemented0x34 => Sys2Proof.Machine.execUnimplemented0x34 s
  | .unimplemented0x35 => Sys2Proof.Machine.execUnimplemented0x35 s
  | .unimplemented0x36 => Sys2Proof.Machine.execUnimplemented0x36 s
  | .unimplemented0x37 => Sys2Proof.Machine.execUnimplemented0x37 s
  | .unimplemented0x38 => Sys2Proof.Machine.execUnimplemented0x38 s
  | .unimplemented0x39 => Sys2Proof.Machine.execUnimplemented0x39 s
  | .unimplemented0x3A => Sys2Proof.Machine.execUnimplemented0x3A s
  | .unimplemented0x3B => Sys2Proof.Machine.execUnimplemented0x3B s
  | .unimplemented0x3C => Sys2Proof.Machine.execUnimplemented0x3C s
  | .unimplemented0x3D => Sys2Proof.Machine.execUnimplemented0x3D s
  | .unimplemented0x3E => Sys2Proof.Machine.execUnimplemented0x3E s
  | .unimplemented0x3F => Sys2Proof.Machine.execUnimplemented0x3F s
  | .unimplemented0x40 => Sys2Proof.Machine.execUnimplemented0x40 s
  | .unimplemented0x41 => Sys2Proof.Machine.execUnimplemented0x41 s
  | .unimplemented0x42 => Sys2Proof.Machine.execUnimplemented0x42 s
  | .unimplemented0x43 => Sys2Proof.Machine.execUnimplemented0x43 s
  | .unimplemented0x44 => Sys2Proof.Machine.execUnimplemented0x44 s
  | .unimplemented0x45 => Sys2Proof.Machine.execUnimplemented0x45 s
  | .unimplemented0x46 => Sys2Proof.Machine.execUnimplemented0x46 s
  | .unimplemented0x47 => Sys2Proof.Machine.execUnimplemented0x47 s
  | .unimplemented0x48 => Sys2Proof.Machine.execUnimplemented0x48 s
  | .unimplemented0x49 => Sys2Proof.Machine.execUnimplemented0x49 s
  | .unimplemented0x4A => Sys2Proof.Machine.execUnimplemented0x4A s
  | .unimplemented0x4B => Sys2Proof.Machine.execUnimplemented0x4B s
  | .unimplemented0x4C => Sys2Proof.Machine.execUnimplemented0x4C s
  | .unimplemented0x4D => Sys2Proof.Machine.execUnimplemented0x4D s
  | .unimplemented0x4E => Sys2Proof.Machine.execUnimplemented0x4E s
  | .unimplemented0x4F => Sys2Proof.Machine.execUnimplemented0x4F s
  | .unimplemented0x50 => Sys2Proof.Machine.execUnimplemented0x50 s
  | .unimplemented0x51 => Sys2Proof.Machine.execUnimplemented0x51 s
  | .unimplemented0x52 => Sys2Proof.Machine.execUnimplemented0x52 s
  | .unimplemented0x53 => Sys2Proof.Machine.execUnimplemented0x53 s
  | .unimplemented0x54 => Sys2Proof.Machine.execUnimplemented0x54 s
  | .unimplemented0x55 => Sys2Proof.Machine.execUnimplemented0x55 s
  | .unimplemented0x56 => Sys2Proof.Machine.execUnimplemented0x56 s
  | .unimplemented0x57 => Sys2Proof.Machine.execUnimplemented0x57 s
  | .unimplemented0x58 => Sys2Proof.Machine.execUnimplemented0x58 s
  | .unimplemented0x59 => Sys2Proof.Machine.execUnimplemented0x59 s
  | .unimplemented0x5A => Sys2Proof.Machine.execUnimplemented0x5A s
  | .unimplemented0x5B => Sys2Proof.Machine.execUnimplemented0x5B s
  | .unimplemented0x5C => Sys2Proof.Machine.execUnimplemented0x5C s
  | .unimplemented0x5D => Sys2Proof.Machine.execUnimplemented0x5D s
  | .unimplemented0x5E => Sys2Proof.Machine.execUnimplemented0x5E s
  | .unimplemented0x5F => Sys2Proof.Machine.execUnimplemented0x5F s
  | .unimplemented0x60 => Sys2Proof.Machine.execUnimplemented0x60 s
  | .unimplemented0x61 => Sys2Proof.Machine.execUnimplemented0x61 s
  | .unimplemented0x62 => Sys2Proof.Machine.execUnimplemented0x62 s
  | .unimplemented0x63 => Sys2Proof.Machine.execUnimplemented0x63 s
  | .unimplemented0x64 => Sys2Proof.Machine.execUnimplemented0x64 s
  | .unimplemented0x65 => Sys2Proof.Machine.execUnimplemented0x65 s
  | .unimplemented0x66 => Sys2Proof.Machine.execUnimplemented0x66 s
  | .unimplemented0x67 => Sys2Proof.Machine.execUnimplemented0x67 s
  | .unimplemented0x68 => Sys2Proof.Machine.execUnimplemented0x68 s
  | .unimplemented0x69 => Sys2Proof.Machine.execUnimplemented0x69 s
  | .unimplemented0x6A => Sys2Proof.Machine.execUnimplemented0x6A s
  | .unimplemented0x6B => Sys2Proof.Machine.execUnimplemented0x6B s
  | .unimplemented0x6C => Sys2Proof.Machine.execUnimplemented0x6C s
  | .unimplemented0x6D => Sys2Proof.Machine.execUnimplemented0x6D s
  | .unimplemented0x6E => Sys2Proof.Machine.execUnimplemented0x6E s
  | .unimplemented0x6F => Sys2Proof.Machine.execUnimplemented0x6F s
  | .unimplemented0x70 => Sys2Proof.Machine.execUnimplemented0x70 s
  | .unimplemented0x71 => Sys2Proof.Machine.execUnimplemented0x71 s
  | .unimplemented0x72 => Sys2Proof.Machine.execUnimplemented0x72 s
  | .unimplemented0x73 => Sys2Proof.Machine.execUnimplemented0x73 s
  | .unimplemented0x74 => Sys2Proof.Machine.execUnimplemented0x74 s
  | .unimplemented0x75 => Sys2Proof.Machine.execUnimplemented0x75 s
  | .unimplemented0x76 => Sys2Proof.Machine.execUnimplemented0x76 s
  | .unimplemented0x77 => Sys2Proof.Machine.execUnimplemented0x77 s
  | .unimplemented0x78 => Sys2Proof.Machine.execUnimplemented0x78 s
  | .unimplemented0x79 => Sys2Proof.Machine.execUnimplemented0x79 s
  | .unimplemented0x7A => Sys2Proof.Machine.execUnimplemented0x7A s
  | .unimplemented0x7B => Sys2Proof.Machine.execUnimplemented0x7B s
  | .unimplemented0x7C => Sys2Proof.Machine.execUnimplemented0x7C s
  | .unimplemented0x7D => Sys2Proof.Machine.execUnimplemented0x7D s
  | .unimplemented0x7E => Sys2Proof.Machine.execUnimplemented0x7E s
  | .unimplemented0x7F => Sys2Proof.Machine.execUnimplemented0x7F s

end Sys2Proof.Machine
end

