-- ==== Sys2Proof/Machine/Cycle.lean ====
section
/-!
DEFINITION. One iteration of the run loop: fetch, advance, decode, execute, loop condition (40_cycle.md).
-/

namespace Sys2Proof.Machine

/-- What the loop does with Execute's outcome: after a successful step, the loop condition (R64, R70). -/
def afterExecute (o : Host.Outcome State Fault Refusal) : Host.Outcome State Fault Refusal :=
  match o with
  | .next t => .next t.haltCheck
  | .fault r => .fault r
  | .refused r => .refused r

/-- The step of a Running machine (R64): an out-of-range fetch ends the run Faulted(pc) before the pc advances (R65, R90);
otherwise the pc advances (R67), and the decoded word (R68) is executed (R69). Log entries 3, 7 and 9. -/
def runningCycle (s : State) : Host.Outcome State Fault Refusal :=
  match s.fetchWord with
  | none => .next (s.raiseAddressOutOfRange s.pc)
  | some w => afterExecute (exec (decodeWord w) s.advancePc)

/-- One step, by the run state. No step exists from Halted or Faulted (R70): DESIGN CHOICE (log entry 4), the step then
answers a fault that names which. -/
def cycle (s : State) : Host.Outcome State Fault Refusal :=
  match s.status with
  | .running => runningCycle s
  | .halted => .fault .runHalted
  | .faulted addr => .fault (.addressOutOfRange addr)

end Sys2Proof.Machine
end

