-- ==== Sys2Proof/Machine/Step.lean ====
section
/-!
DEFINITION. The step, and the host's way to place the next instruction word.
-/

namespace Sys2Proof.Machine

/-- One step of the machine (R13, R64). -/
def step (s : State) : Host.Outcome State Fault Refusal := cycle s

/-- s with a table word stored where the next step fetches: its four bytes at pc, backed, and the run state Running, since
a machine without an image is Halted (log entry 6). It stands for the load of an image from outside the machine (R28). -/
def State.withFetchWord (s : State) (nbits w : Nat) : State :=
  { s with mem := s.mem.placeWord s.pc.toNat (tableWord nbits w), status := .running }

end Sys2Proof.Machine
end

