-- ==== Sys2Proof/Safety.lean ====
section
/-!
DEFINITION. The invariant of the run loop, and the terms in which a whole run is stated.
-/

namespace Sys2Proof.Machine

/-- The run state agrees with the pc and L (R24, R65, R70): Running exactly while pc < L without a fault; Halted with
pc = L; Faulted at the partial last word, with the pc not advanced. -/
def State.statusFits (s : State) : Bool :=
  match s.status with
  | .running => decide (s.pc.toNat < s.mem.size)
  | .halted => decide (s.pc.toNat = s.mem.size)
  | .faulted addr => decide (addr = s.pc ∧ s.pc.toNat < s.mem.size ∧ s.mem.size < s.pc.toNat + 4)

/-- What every state of a run satisfies: memory in canonical form and no longer than a CAP can be (R106), the pc a multiple
of 4 (R22), the unused cell of x0 at its reset value 0, and the run state in step with the pc. -/
abbrev State.Inv (s : State) : Prop :=
  s.mem.wf = true ∧ s.mem.size ≤ 0xFFFFFFFF ∧ s.pc.toNat % 4 = 0 ∧ s.regs[0] = 0#32 ∧ s.statusFits = true

/-- The full little-endian words of an image, in address order; a partial last word is left out (R35, R65). -/
def imageWords (image : List Byte) : List Word :=
  match image with
  | b0 :: b1 :: b2 :: b3 :: rest => wordOfBytes b0 b1 b2 b3 :: imageWords rest
  | _ => []

/-- What one word does to the registers: an addition into rd for the opcodes 0x13 and 0x33, nothing for any other
(R75, R77, R79), written over a register file given as a function and with the fields of R49 spelled out. -/
def wordOnRegs (x : RegIdx → Word) (w : Word) : RegIdx → Word := fun r =>
  if r ≠ 0#5 ∧ r = w.extractLsb' 7 5 ∧ w.extractLsb' 0 7 = 0x13#7 then
    x (w.extractLsb' 15 5) + (w.extractLsb' 20 12).signExtend 32
  else if r ≠ 0#5 ∧ r = w.extractLsb' 7 5 ∧ w.extractLsb' 0 7 = 0x33#7 then
    x (w.extractLsb' 15 5) + x (w.extractLsb' 20 5)
  else x r

/-- The diagnostic events of a list of words: one for each word whose opcode is neither 0x13 nor 0x33 (R31, R79). -/
def wordsDiag (ws : List Word) : List Opcode :=
  (ws.map fun w => w.extractLsb' 0 7).filter fun op => op ≠ 0x13#7 ∧ op ≠ 0x33#7

/-- The unimplemented rows 0x00 to 0x0F of spec/opcode_table.json: the opcode of each and its constructor (R56). -/
def unimplementedRows0 : List (Opcode × Instr) := [
  (0x00#7, .unimplemented0x00), (0x01#7, .unimplemented0x01), (0x02#7, .unimplemented0x02),
  (0x03#7, .unimplemented0x03), (0x04#7, .unimplemented0x04), (0x05#7, .unimplemented0x05),
  (0x06#7, .unimplemented0x06), (0x07#7, .unimplemented0x07), (0x08#7, .unimplemented0x08),
  (0x09#7, .unimplemented0x09), (0x0A#7, .unimplemented0x0A), (0x0B#7, .unimplemented0x0B),
  (0x0C#7, .unimplemented0x0C), (0x0D#7, .unimplemented0x0D), (0x0E#7, .unimplemented0x0E),
  (0x0F#7, .unimplemented0x0F)]

/-- The unimplemented rows 0x10 to 0x1F of spec/opcode_table.json: the opcode of each and its constructor (R56). -/
def unimplementedRows1 : List (Opcode × Instr) := [
  (0x10#7, .unimplemented0x10), (0x11#7, .unimplemented0x11), (0x12#7, .unimplemented0x12),
  (0x14#7, .unimplemented0x14), (0x15#7, .unimplemented0x15), (0x16#7, .unimplemented0x16),
  (0x17#7, .unimplemented0x17), (0x18#7, .unimplemented0x18), (0x19#7, .unimplemented0x19),
  (0x1A#7, .unimplemented0x1A), (0x1B#7, .unimplemented0x1B), (0x1C#7, .unimplemented0x1C),
  (0x1D#7, .unimplemented0x1D), (0x1E#7, .unimplemented0x1E), (0x1F#7, .unimplemented0x1F)]

/-- The unimplemented rows 0x20 to 0x2F of spec/opcode_table.json: the opcode of each and its constructor (R56). -/
def unimplementedRows2 : List (Opcode × Instr) := [
  (0x20#7, .unimplemented0x20), (0x21#7, .unimplemented0x21), (0x22#7, .unimplemented0x22),
  (0x23#7, .unimplemented0x23), (0x24#7, .unimplemented0x24), (0x25#7, .unimplemented0x25),
  (0x26#7, .unimplemented0x26), (0x27#7, .unimplemented0x27), (0x28#7, .unimplemented0x28),
  (0x29#7, .unimplemented0x29), (0x2A#7, .unimplemented0x2A), (0x2B#7, .unimplemented0x2B),
  (0x2C#7, .unimplemented0x2C), (0x2D#7, .unimplemented0x2D), (0x2E#7, .unimplemented0x2E),
  (0x2F#7, .unimplemented0x2F)]

/-- The unimplemented rows 0x30 to 0x3F of spec/opcode_table.json: the opcode of each and its constructor (R56). -/
def unimplementedRows3 : List (Opcode × Instr) := [
  (0x30#7, .unimplemented0x30), (0x31#7, .unimplemented0x31), (0x32#7, .unimplemented0x32),
  (0x34#7, .unimplemented0x34), (0x35#7, .unimplemented0x35), (0x36#7, .unimplemented0x36),
  (0x37#7, .unimplemented0x37), (0x38#7, .unimplemented0x38), (0x39#7, .unimplemented0x39),
  (0x3A#7, .unimplemented0x3A), (0x3B#7, .unimplemented0x3B), (0x3C#7, .unimplemented0x3C),
  (0x3D#7, .unimplemented0x3D), (0x3E#7, .unimplemented0x3E), (0x3F#7, .unimplemented0x3F)]

/-- The unimplemented rows 0x40 to 0x4F of spec/opcode_table.json: the opcode of each and its constructor (R56). -/
def unimplementedRows4 : List (Opcode × Instr) := [
  (0x40#7, .unimplemented0x40), (0x41#7, .unimplemented0x41), (0x42#7, .unimplemented0x42),
  (0x43#7, .unimplemented0x43), (0x44#7, .unimplemented0x44), (0x45#7, .unimplemented0x45),
  (0x46#7, .unimplemented0x46), (0x47#7, .unimplemented0x47), (0x48#7, .unimplemented0x48),
  (0x49#7, .unimplemented0x49), (0x4A#7, .unimplemented0x4A), (0x4B#7, .unimplemented0x4B),
  (0x4C#7, .unimplemented0x4C), (0x4D#7, .unimplemented0x4D), (0x4E#7, .unimplemented0x4E),
  (0x4F#7, .unimplemented0x4F)]

/-- The unimplemented rows 0x50 to 0x5F of spec/opcode_table.json: the opcode of each and its constructor (R56). -/
def unimplementedRows5 : List (Opcode × Instr) := [
  (0x50#7, .unimplemented0x50), (0x51#7, .unimplemented0x51), (0x52#7, .unimplemented0x52),
  (0x53#7, .unimplemented0x53), (0x54#7, .unimplemented0x54), (0x55#7, .unimplemented0x55),
  (0x56#7, .unimplemented0x56), (0x57#7, .unimplemented0x57), (0x58#7, .unimplemented0x58),
  (0x59#7, .unimplemented0x59), (0x5A#7, .unimplemented0x5A), (0x5B#7, .unimplemented0x5B),
  (0x5C#7, .unimplemented0x5C), (0x5D#7, .unimplemented0x5D), (0x5E#7, .unimplemented0x5E),
  (0x5F#7, .unimplemented0x5F)]

/-- The unimplemented rows 0x60 to 0x6F of spec/opcode_table.json: the opcode of each and its constructor (R56). -/
def unimplementedRows6 : List (Opcode × Instr) := [
  (0x60#7, .unimplemented0x60), (0x61#7, .unimplemented0x61), (0x62#7, .unimplemented0x62),
  (0x63#7, .unimplemented0x63), (0x64#7, .unimplemented0x64), (0x65#7, .unimplemented0x65),
  (0x66#7, .unimplemented0x66), (0x67#7, .unimplemented0x67), (0x68#7, .unimplemented0x68),
  (0x69#7, .unimplemented0x69), (0x6A#7, .unimplemented0x6A), (0x6B#7, .unimplemented0x6B),
  (0x6C#7, .unimplemented0x6C), (0x6D#7, .unimplemented0x6D), (0x6E#7, .unimplemented0x6E),
  (0x6F#7, .unimplemented0x6F)]

/-- The unimplemented rows 0x70 to 0x7F of spec/opcode_table.json: the opcode of each and its constructor (R56). -/
def unimplementedRows7 : List (Opcode × Instr) := [
  (0x70#7, .unimplemented0x70), (0x71#7, .unimplemented0x71), (0x72#7, .unimplemented0x72),
  (0x73#7, .unimplemented0x73), (0x74#7, .unimplemented0x74), (0x75#7, .unimplemented0x75),
  (0x76#7, .unimplemented0x76), (0x77#7, .unimplemented0x77), (0x78#7, .unimplemented0x78),
  (0x79#7, .unimplemented0x79), (0x7A#7, .unimplemented0x7A), (0x7B#7, .unimplemented0x7B),
  (0x7C#7, .unimplemented0x7C), (0x7D#7, .unimplemented0x7D), (0x7E#7, .unimplemented0x7E),
  (0x7F#7, .unimplemented0x7F)]

/-- All 126 unimplemented rows of spec/opcode_table.json (R56, R79). -/
def unimplementedTable : List (Opcode × Instr) :=
  unimplementedRows0 ++ unimplementedRows1 ++ unimplementedRows2 ++ unimplementedRows3 ++ unimplementedRows4 ++ unimplementedRows5 ++ unimplementedRows6 ++ unimplementedRows7

end Sys2Proof.Machine
end

