-- ==== Sys2Proof/Certificates/Slice0/Obligations.lean ====
section
/-!
DEFINITION. The statements for the provers, from the numbered rules of the spec.
The fields of a word are spelled out as bit ranges (`extractLsb' lo len`), so that a statement does not rest on the
decoder's own names for them.
-/

open Sys2Proof Sys2Proof.Machine

/-! ### The step -/

/-- R64: the step of a Running machine, with its out-of-range fetch, the advance before execute, and the loop condition.
What `MemRead` answers is RangeCheckedLittleEndianRead's. -/
def Obligations.RunningStepFollowsTheCycle : Prop :=
  ∀ s : State, s.status = .running →
    (s.pc.toNat + 4 > s.mem.size → step s = .next { s with status := .faulted s.pc }) ∧
    (s.pc.toNat + 4 ≤ s.mem.size → ∃ w t, s.mem.readWord s.pc = some w ∧
      exec (decodeWord w) { s with pc := s.pc + 4#32 } = .next t ∧
      step s = .next (if t.pc.toNat ≥ t.mem.size then { t with status := .halted } else t))

/-- A step runs the decoded instruction: when the four bytes at the pc decode to a well-formed instruction i, the step is
exec of i in the state whose pc has advanced, and then the loop condition (R64 to R70). -/
def Obligations.StepExecutesTheDecodedBytes : Prop :=
  ∀ (s : State) (b0 b1 b2 b3 : Byte) (i : Instr), s.status = .running →
    s.mem.read s.pc.toNat = some b0 → s.mem.read (s.pc.toNat + 1) = some b1 →
    s.mem.read (s.pc.toNat + 2) = some b2 → s.mem.read (s.pc.toNat + 3) = some b3 →
    decodeBytes [b0, b1, b2, b3] = .ok (i, []) → i.wf = true →
    step s = match exec i { s with pc := s.pc + 4#32 } with
      | .next t => .next (if t.pc.toNat ≥ t.mem.size then { t with status := .halted } else t)
      | .fault r => .fault r
      | .refused r => .refused r

/-- R90: a fetch with pc < L < pc + 4 ends the run Faulted(pc), and changes nothing else; no later step exists. -/
def Obligations.OutOfRangeFetchEndsTheRunFaulted : Prop :=
  ∀ s : State, s.status = .running → s.pc.toNat < s.mem.size → s.mem.size < s.pc.toNat + 4 →
    ∃ t, step s = .next t ∧ t.status = .faulted s.pc ∧ t.pc = s.pc ∧ t.regs = s.regs ∧ t.mem = s.mem ∧
      t.diag = s.diag ∧ ∀ u, step t ≠ .next u

/-- No step exists from Halted or Faulted (R70). That the step then answers a fault, and its name, is the model's choice
(log entry 4). -/
def Obligations.TerminalStatesAnswerANamedFault : Prop :=
  (∀ s : State, s.status = .halted → step s = .fault .runHalted) ∧
  (∀ (s : State) (a : Word), s.status = .faulted a → step s = .fault (.addressOutOfRange a))

/-- A Running machine always has a next state: no instruction faults or is refused (R91, R93). -/
def Obligations.RunningMachineAlwaysSteps : Prop :=
  ∀ s : State, s.status = .running → ∃ t, step s = .next t

/-- R73: only three kinds of step exist, and the fault of the fetch; no step writes memory. -/
def Obligations.OnlyThreeKindsOfStepAndTheFault : Prop :=
  ∀ s t : State, step s = .next t →
    t.mem = s.mem ∧
    ((∃ w, s.mem.readWord s.pc = some w ∧ t.pc = s.pc + 4#32 ∧
        t.status = (if (s.pc + 4#32).toNat ≥ s.mem.size then .halted else .running) ∧
        ((w.extractLsb' 0 7 = 0x13#7 ∧ t.diag = s.diag ∧ ∀ r, t.readReg r =
            if r ≠ 0#5 ∧ r = w.extractLsb' 7 5 then
              s.readReg (w.extractLsb' 15 5) + (w.extractLsb' 20 12).signExtend 32
            else s.readReg r) ∨
         (w.extractLsb' 0 7 = 0x33#7 ∧ t.diag = s.diag ∧ ∀ r, t.readReg r =
            if r ≠ 0#5 ∧ r = w.extractLsb' 7 5 then
              s.readReg (w.extractLsb' 15 5) + s.readReg (w.extractLsb' 20 5)
            else s.readReg r) ∨
         (w.extractLsb' 0 7 ≠ 0x13#7 ∧ w.extractLsb' 0 7 ≠ 0x33#7 ∧ t.regs = s.regs ∧
            t.diag = s.diag ++ [w.extractLsb' 0 7]))) ∨
     (s.mem.size < s.pc.toNat + 4 ∧ t = { s with status := .faulted s.pc }))

/-- R93: a step raises at most one event; a step that faults emits no Diag, a step that fetches does not fault, and an
ADDI or ADD step raises no event. -/
def Obligations.StepRaisesAtMostOneEvent : Prop :=
  ∀ s t : State, step s = .next t →
    (t.diag = s.diag ∨ ∃ op, t.diag = s.diag ++ [op]) ∧
    (∀ a, t.status = .faulted a → t.diag = s.diag ∧ s.mem.readWord s.pc = none) ∧
    (∀ w, s.mem.readWord s.pc = some w → ∀ a, t.status ≠ .faulted a) ∧
    (∀ w, s.mem.readWord s.pc = some w → w.extractLsb' 0 7 = 0x13#7 ∨ w.extractLsb' 0 7 = 0x33#7 →
      t.diag = s.diag)

/-- R23: the advance is pc + 4 mod 2^32, and from a state of a run the wrap cannot be reached: the largest pc fetched is
0xFFFFFFF8 and its successor at most 0xFFFFFFFC. -/
def Obligations.PcAdvancesByFourWithoutWrap : Prop :=
  (∀ s t : State, step s = .next t → (∃ w, s.mem.readWord s.pc = some w) →
    t.pc.toNat = (s.pc.toNat + 4) % 2 ^ 32) ∧
  (∀ s t : State, s.Inv → step s = .next t → (∃ w, s.mem.readWord s.pc = some w) →
    s.pc.toNat ≤ 0xFFFFFFF8 ∧ t.pc.toNat = s.pc.toNat + 4 ∧ t.pc.toNat ≤ 0xFFFFFFFC)

/-- Halted is reached only with pc = L and L a multiple of 4, Faulted only at the partial last word (R65, R70). -/
def Obligations.RunEndsOnlyAtTheEndOfTheImage : Prop :=
  ∀ s t : State, s.Inv → step s = .next t →
    (t.status = .halted → t.pc.toNat = t.mem.size ∧ t.mem.size % 4 = 0) ∧
    (∀ a, t.status = .faulted a →
      t.mem.size % 4 ≠ 0 ∧ t.pc = s.pc ∧ a.toNat = t.mem.size - t.mem.size % 4) ∧
    (t.status = .running → t.pc.toNat < t.mem.size)

/-! ### The instructions -/

/-- R75: every word with opcode 0x13, whatever its bits 14:12, writes x[rs1] + sext_12(imm) mod 2^32 to x[rd], and only
that. -/
def Obligations.AddiWordsAddTheSignExtendedImmediate : Prop :=
  ∀ (w : Word) (s : State), w.extractLsb' 0 7 = 0x13#7 →
    ∃ t, exec (decodeWord w) s = .next t ∧
      (∀ r, (t.readReg r).toNat =
        if r ≠ 0#5 ∧ r = w.extractLsb' 7 5 then
          ((s.readReg (w.extractLsb' 15 5)).toNat + ((w.extractLsb' 20 12).signExtend 32).toNat) % 2 ^ 32
        else (s.readReg r).toNat) ∧
      t.pc = s.pc ∧ t.mem = s.mem ∧ t.status = s.status ∧ t.diag = s.diag

/-- R77: every word with opcode 0x33, whatever its bits 14:12 and 31:25, writes x[rs1] + x[rs2] mod 2^32 to x[rd], and
only that. -/
def Obligations.AddWordsAddTheSourceRegisters : Prop :=
  ∀ (w : Word) (s : State), w.extractLsb' 0 7 = 0x33#7 →
    ∃ t, exec (decodeWord w) s = .next t ∧
      (∀ r, (t.readReg r).toNat =
        if r ≠ 0#5 ∧ r = w.extractLsb' 7 5 then
          ((s.readReg (w.extractLsb' 15 5)).toNat + (s.readReg (w.extractLsb' 20 5)).toNat) % 2 ^ 32
        else (s.readReg r).toNat) ∧
      t.pc = s.pc ∧ t.mem = s.mem ∧ t.status = s.status ∧ t.diag = s.diag

/-- ADDI completes on every state and operand, with its result and its frame: every other register, the pc, the status,
the diagnostic stream and every byte of memory are as before (R17, R25, R69, R75). -/
def Obligations.AddiCompletesAndChangesOnlyRd : Prop :=
  ∀ (rd rs1 : RegIdx) (imm : Word) (s : State),
    ∃ t, exec (.addi rd rs1 imm) s = .next t ∧
      (rd ≠ 0#5 → t.readReg rd = s.readReg rs1 + imm) ∧
      (∀ r, r ≠ rd ∨ r = 0#5 → t.readReg r = s.readReg r) ∧
      t.pc = s.pc ∧ t.status = s.status ∧ t.diag = s.diag ∧ t.mem.size = s.mem.size ∧
      ∀ a, t.mem.read a = s.mem.read a

/-- ADD completes on every state and operand, with its result and its frame (R17, R25, R69, R77). -/
def Obligations.AddCompletesAndChangesOnlyRd : Prop :=
  ∀ (rd rs1 rs2 : RegIdx) (s : State),
    ∃ t, exec (.add rd rs1 rs2) s = .next t ∧
      (rd ≠ 0#5 → t.readReg rd = s.readReg rs1 + s.readReg rs2) ∧
      (∀ r, r ≠ rd ∨ r = 0#5 → t.readReg r = s.readReg r) ∧
      t.pc = s.pc ∧ t.status = s.status ∧ t.diag = s.diag ∧ t.mem.size = s.mem.size ∧
      ∀ a, t.mem.read a = s.mem.read a

/-- With rd = x0 the addition completes and the whole state is as before: no register, not even the cell of x0, changes
(R17, R58). -/
def Obligations.AdditionIntoX0ChangesNothing : Prop :=
  ∀ (rs1 rs2 : RegIdx) (imm : Word) (s : State),
    exec (.addi 0#5 rs1 imm) s = .next s ∧ exec (.add 0#5 rs1 rs2) s = .next s

/-- R111: a destination that is also a source is overwritten with a sum of the old values. -/
def Obligations.SourcesAreReadBeforeTheDestination : Prop :=
  ∀ (rd rs : RegIdx) (imm : Word) (s : State), rd ≠ 0#5 →
    (∃ t, exec (.addi rd rd imm) s = .next t ∧ t.readReg rd = s.readReg rd + imm) ∧
    (∃ t, exec (.add rd rd rs) s = .next t ∧ t.readReg rd = s.readReg rd + s.readReg rs) ∧
    (∃ t, exec (.add rd rs rd) s = .next t ∧ t.readReg rd = s.readReg rs + s.readReg rd) ∧
    (∃ t, exec (.add rd rd rd) s = .next t ∧ (t.readReg rd).toNat = 2 * (s.readReg rd).toNat % 2 ^ 32)

/-- Every unimplemented row of the opcode table, by its constructor (unimplementedTable lists all 126), completes on every
state: it appends its opcode to the diagnostic stream and leaves the rest of the state as it was (R56, R79). -/
def Obligations.EveryUnimplementedRowCompletes : Prop :=
  ∀ p ∈ unimplementedTable, ∀ s : State, exec p.2 s = .next { s with diag := s.diag ++ [p.1] }

/-- R79 and R80: a word of any opcode but 0x13 and 0x33 emits one event with its opcode and changes no register and no
memory; its step leaves the pc advanced by 4, and the status as it was but for the Halted transition. -/
def Obligations.UnimplementedWordsOnlyEmitADiagnostic : Prop :=
  ∀ (w : Word) (s : State), w.extractLsb' 0 7 ≠ 0x13#7 → w.extractLsb' 0 7 ≠ 0x33#7 →
    exec (decodeWord w) s = .next { s with diag := s.diag ++ [w.extractLsb' 0 7] } ∧
    (s.status = .running → s.mem.readWord s.pc = some w →
      ∃ t, step s = .next t ∧ t.regs = s.regs ∧ (∀ r, t.readReg r = s.readReg r) ∧ t.mem = s.mem ∧
        t.pc = s.pc + 4#32 ∧ t.diag = s.diag ++ [w.extractLsb' 0 7] ∧
        t.status = (if (s.pc + 4#32).toNat ≥ s.mem.size then .halted else .running))

/-- No instruction reads or writes the pc, the memory or the status: with other ones, Execute gives the same registers and
the same events, and hands them back as they were (R20, R36, R37, R93). -/
def Obligations.ExecuteIgnoresPcMemoryAndStatus : Prop :=
  ∀ (i : Instr) (s : State) (pc : Word) (mem : Memory) (status : Status),
    ∃ t, exec i s = .next t ∧ t.pc = s.pc ∧ t.mem = s.mem ∧ t.status = s.status ∧
      exec i { s with pc := pc, mem := mem, status := status } =
        .next { t with pc := pc, mem := mem, status := status }

/-- The adder: mod 2^32 on bit patterns, the same sum read as signed (R76), with no flag anywhere to record overflow (R25). -/
def Obligations.AdderWrapsForBothReadings : Prop :=
  ∀ a b : Word, (aluAdd a b).toNat = (a.toNat + b.toNat) % 2 ^ 32 ∧
    (aluAdd a b).toInt = (a.toInt + b.toInt).bmod (2 ^ 32)

/-! ### Registers and outputs -/

/-- R17: a write is read back, but a write to x0 is discarded and x0 reads 0 to every read and in the snapshot. -/
def Obligations.WritesToX0AreDiscarded : Prop :=
  ∀ (s : State) (i j : RegIdx) (v : Word),
    (s.writeReg i v).readReg j = (if j = 0#5 then 0#32 else if j = i then v else s.readReg j) ∧
    (s.writeReg i v).snapshot = (if i = 0#5 then s.snapshot else s.snapshot.set i.toNat v) ∧
    s.snapshot[0]? = some 0#32 ∧ (s.writeReg 0#5 v).readReg 0#5 = 0#32

/-- The snapshot is the 32 register values in index order, entry 0 being 0 (R29). -/
def Obligations.SnapshotListsTheRegistersInOrder : Prop :=
  ∀ s : State, s.snapshot.length = 32 ∧ s.snapshot[0]? = some 0#32 ∧
    ∀ i : RegIdx, s.snapshot[i.toNat]? = some (s.readReg i)

/-- The diagnostic stream is output only: no step depends on it, and a step extends whatever it holds (R31). -/
def Obligations.DiagnosticsAreOutputOnly : Prop :=
  ∀ (s : State) (d : List Opcode),
    step { s with diag := d } = match step { s with diag := [] } with
      | .next t => .next { t with diag := d ++ t.diag }
      | .fault r => .fault r
      | .refused r => .refused r

/-! ### Decoding and encoding -/

/-- R55: decode is total, keyed on the opcode alone, with the fields and the sign extension of R49 and R53; the other 126
opcodes give the row of that opcode. -/
def Obligations.DecodeIsKeyedOnTheOpcode : Prop :=
  ∀ w : Word,
    (w.extractLsb' 0 7 = 0x13#7 → decodeWord w =
      .addi (w.extractLsb' 7 5) (w.extractLsb' 15 5) ((w.extractLsb' 20 12).signExtend 32)) ∧
    (w.extractLsb' 0 7 = 0x33#7 → decodeWord w =
      .add (w.extractLsb' 7 5) (w.extractLsb' 15 5) (w.extractLsb' 20 5)) ∧
    (w.extractLsb' 0 7 ≠ 0x13#7 → w.extractLsb' 0 7 ≠ 0x33#7 →
      (w.extractLsb' 0 7, decodeWord w) ∈ unimplementedTable)

/-- R50: words that differ only in bits 14:12, and ADD words that differ only in bits 14:12 and 31:25, decode alike; of any
other word only the opcode counts. -/
def Obligations.UnexaminedBitsDoNotChangeDecoding : Prop :=
  (∀ w v : Word, (w ^^^ v) &&& 0xFFFF8FFF#32 = 0#32 → decodeWord w = decodeWord v) ∧
  (∀ w v : Word, w.extractLsb' 0 7 = 0x33#7 → (w ^^^ v) &&& 0x01FF8FFF#32 = 0#32 → decodeWord w = decodeWord v) ∧
  (∀ w v : Word, w.extractLsb' 0 7 ≠ 0x13#7 → w.extractLsb' 0 7 ≠ 0x33#7 →
    w.extractLsb' 0 7 = v.extractLsb' 0 7 → decodeWord w = decodeWord v)

/-- R51 and R52: the two formats laid out field by field at their bit positions, with anything in the ignored fields. -/
def Obligations.FormatsPlaceTheFields : Prop :=
  ∀ (w : Word) (imm : BitVec 12) (rs1 rs2 rd : BitVec 5) (ignoredLow : BitVec 3) (ignoredHigh : BitVec 7),
    (w.toNat = imm.toNat * 2 ^ 20 + rs1.toNat * 2 ^ 15 + ignoredLow.toNat * 2 ^ 12 + rd.toNat * 2 ^ 7 + 0b0010011 →
      decodeWord w = .addi rd rs1 (imm.signExtend 32)) ∧
    (w.toNat = ignoredHigh.toNat * 2 ^ 25 + rs2.toNat * 2 ^ 20 + rs1.toNat * 2 ^ 15 + ignoredLow.toNat * 2 ^ 12 +
        rd.toNat * 2 ^ 7 + 0b0110011 →
      decodeWord w = .add rd rs1 rs2)

/-- Decode of encode is the identity on every well-formed instruction, on words and on bytes (R35, R48, R51 to R56, R62). -/
def Obligations.DecodeOfEncodeIsIdentity : Prop :=
  ∀ i : Instr, i.wf = true →
    decodeWord (encode i) = i ∧ ∀ rest, decodeBytes (encodeBytes i ++ rest) = .ok (i, rest)

/-- Encode of decode gives every examined bit back, and zeros for the bits the core does not examine: for ADDI and ADD as
R62 encodes them (R50, R51, R52, R55). The third clause, zeros in bits 31:7 of an unimplemented word, is the model's choice
of encoder (DESIGN CHOICE, log entry 8): no rule encodes such a word. -/
def Obligations.EncodeOfDecodeKeepsTheExaminedBits : Prop :=
  ∀ w : Word,
    (w.extractLsb' 0 7 = 0x13#7 → encode (decodeWord w) = w &&& 0xFFFF8FFF#32) ∧
    (w.extractLsb' 0 7 = 0x33#7 → encode (decodeWord w) = w &&& 0x01FF8FFF#32) ∧
    (w.extractLsb' 0 7 ≠ 0x13#7 → w.extractLsb' 0 7 ≠ 0x33#7 → encode (decodeWord w) = w &&& 0x0000007F#32)

/-- Every word decodes to a well-formed instruction (R53, R55). -/
def Obligations.EveryWordDecodesWellFormed : Prop :=
  ∀ w : Word, (decodeWord w).wf = true

/-- Every instruction is exactly four bytes, and the bytes after it are left over (R35, R48); a word whose bits 1:0 are not
11 is an unimplemented row (R48, R59). The first clause, the refusal fewerThanFourBytes of a shorter list, is the model's own
byte-list interface (DEDUCED, log entry 13): no rule names such a refusal. -/
def Obligations.InstructionsAreFourBytes : Prop :=
  (∀ bytes : List Byte, bytes.length < 4 → decodeBytes bytes = .error .fewerThanFourBytes) ∧
  (∀ (bytes : List Byte) (w : Word), decodeBytes (bytesOfWord w ++ bytes) = .ok (decodeWord w, bytes)) ∧
  (∀ w : Word, w.extractLsb' 0 2 ≠ 0b11#2 → (w.extractLsb' 0 7, decodeWord w) ∈ unimplementedTable)

/-- R63: the spec's decoder worked examples, word by word. -/
def Obligations.WorkedExampleWordsDecode : Prop :=
  decodeWord 0x00500093#32 = .addi 1#5 0#5 5#32 ∧
  decodeWord 0xFFF08193#32 = .addi 3#5 1#5 0xFFFFFFFF#32 ∧
  decodeWord 0x00308233#32 = .add 4#5 1#5 3#5 ∧
  decodeWord 0x402081B3#32 = .add 3#5 1#5 2#5 ∧
  decodeWord 0x00309093#32 = .addi 1#5 1#5 3#32 ∧
  decodeWord 0x008000EF#32 = .unimplemented0x6F ∧
  decodeWord 0x00000000#32 = .unimplemented0x00

/-- R53: the immediate keeps its signed value, in -2048 to 2047, and bit 31 of the word is its sign; not scaled, not
shifted; the spec's three examples. -/
def Obligations.ImmediateIsSignExtended : Prop :=
  (∀ w : Word, ∀ rd rs1 imm, decodeWord w = .addi rd rs1 imm →
    imm.toInt = (w.extractLsb' 20 12).toInt ∧ -2048 ≤ imm.toInt ∧ imm.toInt ≤ 2047 ∧
    (imm.toInt < 0 ↔ w.getLsbD 31 = true) ∧ imm.extractLsb' 0 12 = w.extractLsb' 20 12) ∧
  sext12 0xFFF#12 = 0xFFFFFFFF#32 ∧ sext12 0x800#12 = 0xFFFFF800#32 ∧ sext12 0x7FF#12 = 0x000007FF#32

/-- The host's two views of a table word agree, and the placed word is what the next step runs (the model's own interface,
log entry 6). -/
def Obligations.PlacedWordIsTheNextInstruction : Prop :=
  ∀ (s : State) (nbits w : Nat), s.mem.wf = true →
    decodeTableWord nbits w = some (decodeWord (tableWord nbits w)) ∧
    ∃ t u, exec (decodeWord (tableWord nbits w))
        { s.withFetchWord nbits w with pc := s.pc + 4#32 } = .next t ∧
      step (s.withFetchWord nbits w) = .next u ∧ u.regs = t.regs ∧ u.pc = t.pc ∧ u.mem = t.mem ∧ u.diag = t.diag

/-! ### Memory -/

/-- R34: MemRead(addr, 4) is out of range exactly when addr + 4 > L, without wrap; otherwise it is the little-endian word
of the four backed bytes. Its raise is the none that RunningStepFollowsTheCycle turns into Faulted. -/
def Obligations.RangeCheckedLittleEndianRead : Prop :=
  ∀ (m : Memory) (addr : Word),
    (addr.toNat + 4 > m.size → m.readWord addr = none) ∧
    (addr.toNat + 4 ≤ m.size → ∃ b0 b1 b2 b3 w,
      m.read addr.toNat = some b0 ∧ m.read (addr.toNat + 1) = some b1 ∧
      m.read (addr.toNat + 2) = some b2 ∧ m.read (addr.toNat + 3) = some b3 ∧
      m.readWord addr = some w ∧
      w.toNat = b0.toNat + 2 ^ 8 * b1.toNat + 2 ^ 16 * b2.toNat + 2 ^ 24 * b3.toNat)

/-- R36: no instruction and no step writes memory, so in every reachable state the memory is the image. -/
def Obligations.MemoryIsAlwaysTheImage : Prop :=
  (∀ (i : Instr) (s t : State), exec i s = .next t → t.mem = s.mem) ∧
  (∀ s t : State, step s = .next t → t.mem = s.mem) ∧
  (∀ (cap : Word) (image : List Byte) (s t : State) (n : Nat), State.construct cap image = some s →
    core.run n s = .next t → t.mem.size = image.length ∧ ∀ a, t.mem.read a = image[a]?)

/-! ### Reset -/

/-- R105 and R19: the state construction leaves, for every image and capacity. -/
def Obligations.ConstructionLeavesTheResetState : Prop :=
  Config.defaultCap = 0x08000000#32 ∧
  ∀ (cap : Word) (image : List Byte) (s : State), State.construct cap image = some s →
    (∀ r : RegIdx, s.readReg r = if r = 2#5 then cap else 0#32) ∧ s.pc = 0#32 ∧
    s.mem.size = image.length ∧ (∀ a, s.mem.read a = image[a]?) ∧
    s.status = (if image.length > 0 then .running else .halted) ∧ s.diag = []

/-- R106: an image longer than CAP makes no machine, every other byte sequence does, and what is backed fits 32 bits. -/
def Obligations.ImageLongerThanCapMakesNoMachine : Prop :=
  ∀ (cap : Word) (image : List Byte),
    (image.length ≤ cap.toNat → ∃ s, State.construct cap image = some s ∧ s.mem.size ≤ 0xFFFFFFFF) ∧
    (image.length > cap.toNat → State.construct cap image = none)

/-- State.reset is construction with the empty image and the default capacity. That the image is the empty one is the
model's choice (log entry 1). -/
def Obligations.ResetIsTheEmptyConstruction : Prop :=
  State.construct 0x08000000#32 [] = some State.reset ∧
  (∀ r : RegIdx, State.reset.readReg r = if r = 2#5 then 0x08000000#32 else 0#32) ∧
  State.reset.pc = 0#32 ∧ (∀ a, State.reset.mem.read a = none) ∧ State.reset.status = .halted ∧ State.reset.diag = []

/-! ### The invariant and whole runs -/

/-- The invariant holds at State.reset. The clause on the cell of x0 is the model's own (log entry 5). -/
def Obligations.InvariantHoldsAtReset : Prop := State.reset.Inv

/-- The invariant holds at every constructed state, whatever the image. -/
def Obligations.InvariantHoldsAtEveryConstruction : Prop :=
  ∀ (cap : Word) (image : List Byte) (s : State), State.construct cap image = some s → s.Inv

/-- Every step keeps the invariant: canonical memory, a pc that is a multiple of 4, the unused cell of x0 at 0 and a run
state that fits the pc (R16, R22, R24, R36, R65, R70). -/
def Obligations.EveryStepKeepsTheInvariant : Prop :=
  ∀ s t : State, s.Inv → step s = .next t → t.Inv

/-- R22: pc is a multiple of 4 in every state of every run. -/
def Obligations.PcIsAlwaysAMultipleOfFour : Prop :=
  ∀ (cap : Word) (image : List Byte) (s t : State) (n : Nat), State.construct cap image = some s →
    core.run n s = .next t → t.pc.toNat % 4 = 0

/-- R71: every run performs floor(L/4) successful steps, each raising pc by 4; it is then Halted if L mod 4 = 0, or takes
one more, faulting step and ends Faulted(4 * floor(L/4)); no step follows. -/
def Obligations.EveryRunTerminatesAtTheImageEnd : Prop :=
  ∀ (cap : Word) (image : List Byte) (s : State), State.construct cap image = some s →
    (∀ k ≤ image.length / 4, ∃ t : State, core.run k s = .next t ∧ t.pc.toNat = 4 * k ∧ ∀ a, t.status ≠ .faulted a) ∧
    (image.length % 4 = 0 →
      (∃ t : State, core.run (image.length / 4) s = .next t ∧ t.status = .halted) ∧
      ∀ (n : Nat) (t : State), core.run (image.length / 4 + 1 + n) s ≠ .next t) ∧
    (image.length % 4 ≠ 0 →
      (∃ t : State, core.run (image.length / 4 + 1) s = .next t ∧
        t.status = .faulted (BitVec.ofNat 32 (4 * (image.length / 4))) ∧ t.pc.toNat = 4 * (image.length / 4)) ∧
      ∀ (n : Nat) (t : State), core.run (image.length / 4 + 2 + n) s ≠ .next t)

/-- A whole run computes what folding its words, one after another, over the reset registers computes, and its diagnostic
stream is the opcodes of the image's unimplemented words in order (R19, R31, R41, R64, R71, R75, R77, R79). -/
def Obligations.RunIsTheFoldOfTheImageWords : Prop :=
  ∀ (cap : Word) (image : List Byte) (s : State), State.construct cap image = some s →
    ∃ t : State, core.run (image.length / 4) s = .next t ∧
      (∀ r, t.readReg r = (imageWords image).foldl wordOnRegs (fun q => if q = 2#5 then cap else 0#32) r) ∧
      t.diag = wordsDiag (imageWords image)
end

