-- ==== Sys2Proof/Laws/State.lean ====
section
/-!
SUPPORT. The fields of a state after each named operation, so that no proof unfolds a record update.
-/

namespace Sys2Proof.Machine

/-! ### writeReg: only the registers change -/

@[simp] theorem State.writeReg_pc (s : State) (i : RegIdx) (v : Word) : (s.writeReg i v).pc = s.pc := by
  unfold State.writeReg; split <;> rfl

@[simp] theorem State.writeReg_mem (s : State) (i : RegIdx) (v : Word) : (s.writeReg i v).mem = s.mem := by
  unfold State.writeReg; split <;> rfl

@[simp] theorem State.writeReg_status (s : State) (i : RegIdx) (v : Word) :
    (s.writeReg i v).status = s.status := by
  unfold State.writeReg; split <;> rfl

@[simp] theorem State.writeReg_diag (s : State) (i : RegIdx) (v : Word) : (s.writeReg i v).diag = s.diag := by
  unfold State.writeReg; split <;> rfl

/-! ### advancePc: only the pc changes -/

@[simp] theorem State.advancePc_regs (s : State) : s.advancePc.regs = s.regs := rfl
@[simp] theorem State.advancePc_pc (s : State) : s.advancePc.pc = s.pc + 4#32 := rfl
@[simp] theorem State.advancePc_mem (s : State) : s.advancePc.mem = s.mem := rfl
@[simp] theorem State.advancePc_status (s : State) : s.advancePc.status = s.status := rfl
@[simp] theorem State.advancePc_diag (s : State) : s.advancePc.diag = s.diag := rfl

/-! ### emitDiag: only the diagnostic stream changes -/

@[simp] theorem State.emitDiag_regs (s : State) (op : Opcode) : (s.emitDiag op).regs = s.regs := rfl
@[simp] theorem State.emitDiag_pc (s : State) (op : Opcode) : (s.emitDiag op).pc = s.pc := rfl
@[simp] theorem State.emitDiag_mem (s : State) (op : Opcode) : (s.emitDiag op).mem = s.mem := rfl
@[simp] theorem State.emitDiag_status (s : State) (op : Opcode) : (s.emitDiag op).status = s.status := rfl
@[simp] theorem State.emitDiag_diag (s : State) (op : Opcode) : (s.emitDiag op).diag = s.diag ++ [op] := rfl

/-! ### raiseAddressOutOfRange: only the status changes -/

@[simp] theorem State.raiseAddressOutOfRange_regs (s : State) (a : Word) :
    (s.raiseAddressOutOfRange a).regs = s.regs := rfl
@[simp] theorem State.raiseAddressOutOfRange_pc (s : State) (a : Word) :
    (s.raiseAddressOutOfRange a).pc = s.pc := rfl
@[simp] theorem State.raiseAddressOutOfRange_mem (s : State) (a : Word) :
    (s.raiseAddressOutOfRange a).mem = s.mem := rfl
@[simp] theorem State.raiseAddressOutOfRange_status (s : State) (a : Word) :
    (s.raiseAddressOutOfRange a).status = .faulted a := rfl
@[simp] theorem State.raiseAddressOutOfRange_diag (s : State) (a : Word) :
    (s.raiseAddressOutOfRange a).diag = s.diag := rfl

/-! ### haltCheck: only the status changes, to Halted once pc has reached L -/

@[simp] theorem State.haltCheck_regs (s : State) : s.haltCheck.regs = s.regs := by
  unfold State.haltCheck; split <;> rfl

@[simp] theorem State.haltCheck_pc (s : State) : s.haltCheck.pc = s.pc := by
  unfold State.haltCheck; split <;> rfl

@[simp] theorem State.haltCheck_mem (s : State) : s.haltCheck.mem = s.mem := by
  unfold State.haltCheck; split <;> rfl

@[simp] theorem State.haltCheck_diag (s : State) : s.haltCheck.diag = s.diag := by
  unfold State.haltCheck; split <;> rfl

theorem State.haltCheck_status (s : State) :
    s.haltCheck.status = if s.mem.size ≤ s.pc.toNat then .halted else s.status := by
  unfold State.haltCheck; split <;> rfl

/-! ### readReg looks at the registers only -/

theorem State.readReg_congr {s t : State} (h : t.regs = s.regs) (i : RegIdx) : t.readReg i = s.readReg i := by
  simp [State.readReg, h]

@[simp] theorem State.readReg_advancePc (s : State) (i : RegIdx) : s.advancePc.readReg i = s.readReg i := rfl
@[simp] theorem State.readReg_emitDiag (s : State) (op : Opcode) (i : RegIdx) :
    (s.emitDiag op).readReg i = s.readReg i := rfl
@[simp] theorem State.readReg_raiseAddressOutOfRange (s : State) (a : Word) (i : RegIdx) :
    (s.raiseAddressOutOfRange a).readReg i = s.readReg i := rfl
@[simp] theorem State.readReg_haltCheck (s : State) (i : RegIdx) : s.haltCheck.readReg i = s.readReg i :=
  State.readReg_congr s.haltCheck_regs i

/-! ### withFetchWord: only the memory and the status change -/

@[simp] theorem State.withFetchWord_regs (s : State) (n w : Nat) : (s.withFetchWord n w).regs = s.regs := rfl
@[simp] theorem State.withFetchWord_pc (s : State) (n w : Nat) : (s.withFetchWord n w).pc = s.pc := rfl
@[simp] theorem State.withFetchWord_mem (s : State) (n w : Nat) :
    (s.withFetchWord n w).mem = s.mem.placeWord s.pc.toNat (tableWord n w) := rfl
@[simp] theorem State.withFetchWord_status (s : State) (n w : Nat) : (s.withFetchWord n w).status = .running := rfl
@[simp] theorem State.withFetchWord_diag (s : State) (n w : Nat) : (s.withFetchWord n w).diag = s.diag := rfl

/-! ### initial: the state of construction -/

@[simp] theorem State.initial_regs (cap : Word) (m : Memory) : (State.initial cap m).regs = initialRegs cap := rfl
@[simp] theorem State.initial_pc (cap : Word) (m : Memory) : (State.initial cap m).pc = 0#32 := rfl
@[simp] theorem State.initial_mem (cap : Word) (m : Memory) : (State.initial cap m).mem = m := rfl
@[simp] theorem State.initial_status (cap : Word) (m : Memory) :
    (State.initial cap m).status = initialStatus m := rfl
@[simp] theorem State.initial_diag (cap : Word) (m : Memory) : (State.initial cap m).diag = [] := rfl

end Sys2Proof.Machine
end

