-- ==== Sys2Proof/Laws/Registers.lean ====
section
/-!
SUPPORT. What reading and writing a general register does (R16, R17).
-/

namespace Sys2Proof.Machine

@[simp] theorem State.readReg_zero (s : State) : s.readReg 0#5 = 0#32 := by simp [State.readReg]

@[simp] theorem State.writeReg_zero (s : State) (v : Word) : s.writeReg 0#5 v = s := by simp [State.writeReg]

/-- A read after a write: the written register gives the value, x0 gives 0, every other register what it held. -/
theorem State.readReg_writeReg (s : State) (i j : RegIdx) (v : Word) :
    (s.writeReg i v).readReg j = if j ≠ 0#5 ∧ j = i then v else s.readReg j := by
  by_cases hj : j = 0#5
  · subst hj; simp
  · by_cases hi : i = 0#5
    · subst hi; simp [hj]
    · by_cases h : j = i
      · subst h; simp [State.readReg, State.writeReg, hj]
      · have hne : i.toNat ≠ j.toNat := fun e => h (BitVec.eq_of_toNat_eq e.symm)
        simp [State.readReg, State.writeReg, hj, hi, h, hne]

/-- The unused cell of x0 is never written. -/
@[simp] theorem State.writeReg_cell_zero (s : State) (i : RegIdx) (v : Word) :
    (s.writeReg i v).regs[0] = s.regs[0] := by
  unfold State.writeReg
  split
  · rfl
  · rename_i h
    have hne : i.toNat ≠ 0 := fun e => h (BitVec.eq_of_toNat_eq (by simpa using e))
    simp [hne]

end Sys2Proof.Machine
end

