-- ==== Sys2Proof/Laws/Words.lean ====
section
/-!
SUPPORT. The byte order, the fields and the opcode of a word, bit by bit, so that no proof unfolds a shift.
-/

namespace Sys2Proof

/-- A word taken apart into its bytes and put together again (R35). -/
@[simp] theorem wordOfBytes_byteOfWord (w : Word) :
    wordOfBytes (byteOfWord w 0) (byteOfWord w 1) (byteOfWord w 2) (byteOfWord w 3) = w := by
  apply BitVec.eq_of_getLsbD_eq
  intro j hj
  simp only [wordOfBytes, byteOfWord]
  interval_cases j <;> simp

/-- Every opcode but 0x13 and 0x33 selects the row of its own value (R56). -/
theorem unimplementedOf_opcode :
    ∀ op : Opcode, op ≠ 0x13#7 → op ≠ 0x33#7 → (unimplementedOf op).opcode = op := by decide

/-- No unimplemented row has an operand, so each is well-formed. -/
theorem unimplementedOf_wf : ∀ op : Opcode, (unimplementedOf op).wf = true := by decide

/-- An instruction is ADDI, ADD or the unimplemented row of its opcode. -/
theorem Instr.cases_opcode (i : Instr) :
    (∃ rd rs1 imm, i = .addi rd rs1 imm) ∨ (∃ rd rs1 rs2, i = .add rd rs1 rs2) ∨
      (i.opcode ≠ 0x13#7 ∧ i.opcode ≠ 0x33#7 ∧ i = unimplementedOf i.opcode) := by
  cases i with
  | addi rd rs1 imm => exact .inl ⟨rd, rs1, imm, rfl⟩
  | add rd rs1 rs2 => exact .inr (.inl ⟨rd, rs1, rs2, rfl⟩)
  | _ => exact .inr (.inr ⟨by decide, by decide, rfl⟩)

theorem decodeWord_of_addi {w : Word} (h : opcodeField w = 0x13#7) :
    decodeWord w = .addi (rdField w) (rs1Field w) (sext12 (immField w)) := by
  simp [decodeWord, h]

theorem decodeWord_of_add {w : Word} (h : opcodeField w = 0x33#7) :
    decodeWord w = .add (rdField w) (rs1Field w) (rs2Field w) := by
  simp [decodeWord, h]

theorem decodeWord_of_other {w : Word} (h1 : opcodeField w ≠ 0x13#7) (h2 : opcodeField w ≠ 0x33#7) :
    decodeWord w = unimplementedOf (opcodeField w) := by
  unfold decodeWord
  split
  · exact absurd ‹_› h1
  · exact absurd ‹_› h2
  · rfl

/-- The decoded instruction is the row of the word's opcode (R56). -/
@[simp] theorem decodeWord_opcode (w : Word) : (decodeWord w).opcode = opcodeField w := by
  by_cases h1 : opcodeField w = 0x13#7
  · rw [decodeWord_of_addi h1, h1]; rfl
  · by_cases h2 : opcodeField w = 0x33#7
    · rw [decodeWord_of_add h2, h2]; rfl
    · rw [decodeWord_of_other h1 h2, unimplementedOf_opcode _ h1 h2]

/-- Sign extension keeps the signed value (R12, R53). -/
@[simp] theorem sext12_toInt (f : Imm12) : (sext12 f).toInt = f.toInt :=
  BitVec.toInt_signExtend_of_le (by decide)

@[simp] theorem immInRange_iff (imm : Word) : immInRange imm = true ↔ -2048 ≤ imm.toInt ∧ imm.toInt ≤ 2047 := by
  simp [immInRange]

end Sys2Proof
end

