-- ==== Sys2Proof/Laws/Exec.lean ====
section
/-!
SUPPORT. Everything Execute and one step of the run loop can do, for the invariants to cite instead of unfolding them.
-/

namespace Sys2Proof.Machine

/-- Execute always completes: it writes one register, or it appends the instruction's opcode to the diagnostic stream. -/
theorem exec_cases (i : Instr) (s : State) :
    (∃ rd v, exec i s = .next (s.writeReg rd v)) ∨ exec i s = .next (s.emitDiag i.opcode) := by
  cases i with
  | addi rd rs1 imm => exact .inl ⟨rd, _, rfl⟩
  | add rd rs1 rs2 => exact .inl ⟨rd, _, rfl⟩
  | _ => exact .inr rfl

/-- A step that answers a next state took one of these: the out-of-range fetch, a register write, or a diagnostic. -/
theorem step_cases {s t : State} (h : step s = .next t) :
    s.status = .running ∧
      ((s.fetchWord = none ∧ t = s.raiseAddressOutOfRange s.pc) ∨
        ∃ w, s.fetchWord = some w ∧
          ((∃ rd v, t = (s.advancePc.writeReg rd v).haltCheck) ∨
            t = (s.advancePc.emitDiag (decodeWord w).opcode).haltCheck)) := by
  unfold step cycle at h
  split at h
  · rename_i hrun
    refine ⟨hrun, ?_⟩
    unfold runningCycle at h
    split at h
    · rename_i hf
      exact .inl ⟨hf, by cases h; rfl⟩
    · rename_i w hf
      refine .inr ⟨w, hf, ?_⟩
      rcases exec_cases (decodeWord w) s.advancePc with ⟨rd, v, he⟩ | he
      · rw [he] at h
        cases h
        exact .inl ⟨rd, v, rfl⟩
      · rw [he] at h
        cases h
        exact .inr rfl
  · cases h
  · cases h

/-- When the fetch is in range, and what it gives then (R34). -/
theorem State.fetchWord_eq_some {s : State} {w : Word} (h : s.fetchWord = some w) :
    s.pc.toNat + 4 ≤ s.mem.size ∧
      w = wordOfBytes (cellAt s.mem.cells s.pc.toNat) (cellAt s.mem.cells (s.pc.toNat + 1))
        (cellAt s.mem.cells (s.pc.toNat + 2)) (cellAt s.mem.cells (s.pc.toNat + 3)) := by
  unfold State.fetchWord Memory.readWord at h
  split at h
  · cases h
  · exact ⟨by omega, by cases h; rfl⟩

theorem State.fetchWord_eq_none {s : State} (h : s.fetchWord = none) : s.mem.size < s.pc.toNat + 4 := by
  unfold State.fetchWord Memory.readWord at h
  split at h
  · omega
  · cases h

end Sys2Proof.Machine
end

