-- ==== Sys2Proof/Laws/Memory.lean ====
section
/-!
SUPPORT. Every memory operation keeps the canonical form, and what a read gives after each.
-/

namespace Sys2Proof.Machine

/-! ### The canonical form -/

theorem cellsWf_mono {lo lo' hi hi' : Nat} {cells : List Host.Cell} (h : cellsWf lo hi cells = true)
    (hlo : lo' ≤ lo) (hhi : hi ≤ hi') : cellsWf lo' hi' cells = true := by
  induction cells generalizing lo lo' with
  | nil => rfl
  | cons c rest ih =>
    simp only [cellsWf, Bool.and_eq_true, decide_eq_true_eq] at h ⊢
    exact ⟨⟨⟨by omega, by omega⟩, h.1.2⟩, ih h.2 (Nat.le_refl _)⟩

theorem cellsWf_consCell {lo hi a : Nat} {v : Byte} {cells : List Host.Cell} (hlo : lo ≤ a) (ha : a < hi)
    (h : cellsWf (a + 1) hi cells = true) : cellsWf lo hi (consCell a v cells) = true := by
  unfold consCell
  split
  · exact cellsWf_mono h (by omega) (Nat.le_refl _)
  · rename_i hv
    simp [cellsWf, hlo, ha, hv, h]

theorem cellsWf_insertCell {lo hi a : Nat} {v : Byte} {cells : List Host.Cell} (hlo : lo ≤ a) (ha : a < hi)
    (h : cellsWf lo hi cells = true) : cellsWf lo hi (insertCell cells a v) = true := by
  induction cells generalizing lo with
  | nil => exact cellsWf_consCell hlo ha rfl
  | cons c rest ih =>
    have hc := h
    simp only [cellsWf, Bool.and_eq_true, decide_eq_true_eq] at hc
    unfold insertCell
    split
    · refine cellsWf_consCell hlo ha ?_
      simp only [cellsWf, Bool.and_eq_true, decide_eq_true_eq]
      exact ⟨⟨⟨by omega, hc.1.1.2⟩, hc.1.2⟩, hc.2⟩
    · split
      · rename_i heq
        subst heq
        exact cellsWf_consCell hlo ha hc.2
      · simp only [cellsWf, Bool.and_eq_true, decide_eq_true_eq]
        exact ⟨hc.1, ih (by omega) hc.2⟩

theorem cellsWf_cellsFrom (a : Nat) (image : List Byte) :
    cellsWf a (a + image.length) (cellsFrom a image) = true := by
  induction image generalizing a with
  | nil => rfl
  | cons v rest ih =>
    refine cellsWf_consCell (Nat.le_refl _) (by simp) ?_
    have := ih (a + 1)
    rwa [List.length_cons, Nat.add_comm rest.length 1, ← Nat.add_assoc]

theorem Memory.empty_wf : Memory.empty.wf = true := rfl

theorem Memory.ofImage_wf (image : List Byte) : (Memory.ofImage image).wf = true := by
  simpa [Memory.wf, Memory.ofImage] using cellsWf_cellsFrom 0 image

theorem Memory.place_wf {m : Memory} (h : m.wf = true) (a : Nat) (v : Byte) : (m.place a v).wf = true :=
  cellsWf_insertCell (Nat.zero_le _) (by simp [Memory.place])
    (cellsWf_mono h (Nat.le_refl _) (Nat.le_max_left _ _))

theorem Memory.placeWord_wf {m : Memory} (h : m.wf = true) (a : Nat) (w : Word) : (m.placeWord a w).wf = true :=
  Memory.place_wf (Memory.place_wf (Memory.place_wf (Memory.place_wf h _ _) _ _) _ _) _ _

/-! ### Reading a cell -/

/-- Cells that all lie above an address leave it unlisted. -/
theorem cellAt_below {lo hi a : Nat} {cells : List Host.Cell} (h : cellsWf lo hi cells = true) (ha : a < lo) :
    cellAt cells a = 0#8 := by
  induction cells generalizing lo with
  | nil => rfl
  | cons c rest ih =>
    simp only [cellsWf, Bool.and_eq_true, decide_eq_true_eq] at h
    rw [cellAt, if_neg (by omega)]
    exact ih h.2 (by omega)

theorem cellAt_consCell {hi b : Nat} {v : Byte} {cells : List Host.Cell} (h : cellsWf (b + 1) hi cells = true)
    (a : Nat) : cellAt (consCell b v cells) a = if a = b then v else cellAt cells a := by
  unfold consCell
  split
  · rename_i hv
    split
    · rename_i hab
      rw [hv, hab, cellAt_below h (Nat.lt_succ_self b)]
    · rfl
  · rfl

/-- A read after a write of one cell. -/
theorem cellAt_insertCell {lo hi b : Nat} {v : Byte} {cells : List Host.Cell} (h : cellsWf lo hi cells = true)
    (a : Nat) : cellAt (insertCell cells b v) a = if a = b then v else cellAt cells a := by
  induction cells generalizing lo with
  | nil => exact cellAt_consCell (hi := hi) rfl a
  | cons c rest ih =>
    have hc := h
    simp only [cellsWf, Bool.and_eq_true, decide_eq_true_eq] at hc
    unfold insertCell
    split
    · rename_i hb
      refine cellAt_consCell (hi := hi) ?_ a
      simp only [cellsWf, Bool.and_eq_true, decide_eq_true_eq]
      exact ⟨⟨⟨by omega, hc.1.1.2⟩, hc.1.2⟩, hc.2⟩
    · split
      · rename_i heq
        subst heq
        rw [cellAt_consCell hc.2]
        split
        · rfl
        · rename_i hne
          rw [cellAt, if_neg hne]
      · rename_i hlt hne
        rw [cellAt, cellAt, ih hc.2]
        by_cases hac : a = c.1
        · rw [if_pos hac, if_neg (by omega), if_pos hac]
        · rw [if_neg hac, if_neg hac]

theorem cellAt_cellsFrom (b : Nat) (image : List Byte) (k : Nat) :
    cellAt (cellsFrom b image) (b + k) = image.getD k 0#8 := by
  induction image generalizing b k with
  | nil => rfl
  | cons v rest ih =>
    rw [cellsFrom, cellAt_consCell (hi := (b + 1) + rest.length) (cellsWf_cellsFrom (b + 1) rest)]
    cases k with
    | zero => simp
    | succ k =>
      rw [if_neg (by omega), show b + (k + 1) = (b + 1) + k by omega, ih]
      simp

/-! ### Reading a byte -/

/-- Reading a loaded image gives its bytes, and nothing at or above L (R32, R33). -/
theorem Memory.read_ofImage (image : List Byte) (a : Nat) : (Memory.ofImage image).read a = image[a]? := by
  have h := cellAt_cellsFrom 0 image a
  simp only [Nat.zero_add] at h
  simp only [Memory.read, Memory.ofImage, h]
  split
  · rename_i ha
    simp [ha]
  · rename_i ha
    simp at ha
    simp [ha]

/-- A read after a placed byte: the placed address gives it, every other backed address what it held. -/
theorem Memory.read_place {m : Memory} (h : m.wf = true) (b : Nat) (v : Byte) (a : Nat) :
    (m.place b v).read a =
      if a = b then some v else if a < max m.size (b + 1) then some (cellAt m.cells a) else none := by
  simp only [Memory.read, Memory.place, cellAt_insertCell h]
  by_cases hab : a = b
  · subst hab
    simp
  · simp [hab]

@[simp] theorem Memory.placeWord_size (m : Memory) (a : Nat) (w : Word) :
    (m.placeWord a w).size = max m.size (a + 4) := by
  simp only [Memory.placeWord, Memory.place]
  omega

/-- The four placed bytes, and every other cell as it was. -/
theorem Memory.cellAt_placeWord {m : Memory} (h : m.wf = true) (b : Nat) (w : Word) (a : Nat) :
    cellAt (m.placeWord b w).cells a =
      if a = b + 3 then byteOfWord w 3 else if a = b + 2 then byteOfWord w 2
      else if a = b + 1 then byteOfWord w 1 else if a = b then byteOfWord w 0 else cellAt m.cells a := by
  have h0 := Memory.place_wf h b (byteOfWord w 0)
  have h1 := Memory.place_wf h0 (b + 1) (byteOfWord w 1)
  have h2 := Memory.place_wf h1 (b + 2) (byteOfWord w 2)
  have e3 := cellAt_insertCell (b := b + 3) (v := byteOfWord w 3) h2 a
  have e2 := cellAt_insertCell (b := b + 2) (v := byteOfWord w 2) h1 a
  have e1 := cellAt_insertCell (b := b + 1) (v := byteOfWord w 1) h0 a
  have e0 := cellAt_insertCell (b := b) (v := byteOfWord w 0) h a
  simp only [Memory.placeWord, Memory.place] at *
  rw [e3, e2, e1, e0]

end Sys2Proof.Machine
end

