-- ==== Sys2Proof/Laws/PerInstr.lean ====
section
/-!
SUPPORT. Statements for all instructions, one lemma per constructor.
-/

namespace Sys2Proof.Laws.EncodedOpcode

/-- The word an instruction encodes to carries, in its bits 6:0, that instruction's row of the opcode table. -/
def Statement (i : Instr) : Prop := opcodeField (encode i) = i.opcode

theorem addi (rd rs1 : RegIdx) (imm : Word) : Statement (.addi rd rs1 imm) := by
  apply BitVec.eq_of_getLsbD_eq
  intro j hj
  simp only [encode, encAddi, opcodeField, Instr.opcode]
  interval_cases j <;> simp

theorem add (rd rs1 rs2 : RegIdx) : Statement (.add rd rs1 rs2) := by
  apply BitVec.eq_of_getLsbD_eq
  intro j hj
  simp only [encode, encAdd, opcodeField, Instr.opcode]
  interval_cases j <;> simp

theorem unimplemented0x00 : Statement .unimplemented0x00 := rfl
theorem unimplemented0x01 : Statement .unimplemented0x01 := rfl
theorem unimplemented0x02 : Statement .unimplemented0x02 := rfl
theorem unimplemented0x03 : Statement .unimplemented0x03 := rfl
theorem unimplemented0x04 : Statement .unimplemented0x04 := rfl
theorem unimplemented0x05 : Statement .unimplemented0x05 := rfl
theorem unimplemented0x06 : Statement .unimplemented0x06 := rfl
theorem unimplemented0x07 : Statement .unimplemented0x07 := rfl
theorem unimplemented0x08 : Statement .unimplemented0x08 := rfl
theorem unimplemented0x09 : Statement .unimplemented0x09 := rfl
theorem unimplemented0x0A : Statement .unimplemented0x0A := rfl
theorem unimplemented0x0B : Statement .unimplemented0x0B := rfl
theorem unimplemented0x0C : Statement .unimplemented0x0C := rfl
theorem unimplemented0x0D : Statement .unimplemented0x0D := rfl
theorem unimplemented0x0E : Statement .unimplemented0x0E := rfl
theorem unimplemented0x0F : Statement .unimplemented0x0F := rfl
theorem unimplemented0x10 : Statement .unimplemented0x10 := rfl
theorem unimplemented0x11 : Statement .unimplemented0x11 := rfl
theorem unimplemented0x12 : Statement .unimplemented0x12 := rfl
theorem unimplemented0x14 : Statement .unimplemented0x14 := rfl
theorem unimplemented0x15 : Statement .unimplemented0x15 := rfl
theorem unimplemented0x16 : Statement .unimplemented0x16 := rfl
theorem unimplemented0x17 : Statement .unimplemented0x17 := rfl
theorem unimplemented0x18 : Statement .unimplemented0x18 := rfl
theorem unimplemented0x19 : Statement .unimplemented0x19 := rfl
theorem unimplemented0x1A : Statement .unimplemented0x1A := rfl
theorem unimplemented0x1B : Statement .unimplemented0x1B := rfl
theorem unimplemented0x1C : Statement .unimplemented0x1C := rfl
theorem unimplemented0x1D : Statement .unimplemented0x1D := rfl
theorem unimplemented0x1E : Statement .unimplemented0x1E := rfl
theorem unimplemented0x1F : Statement .unimplemented0x1F := rfl
theorem unimplemented0x20 : Statement .unimplemented0x20 := rfl
theorem unimplemented0x21 : Statement .unimplemented0x21 := rfl
theorem unimplemented0x22 : Statement .unimplemented0x22 := rfl
theorem unimplemented0x23 : Statement .unimplemented0x23 := rfl
theorem unimplemented0x24 : Statement .unimplemented0x24 := rfl
theorem unimplemented0x25 : Statement .unimplemented0x25 := rfl
theorem unimplemented0x26 : Statement .unimplemented0x26 := rfl
theorem unimplemented0x27 : Statement .unimplemented0x27 := rfl
theorem unimplemented0x28 : Statement .unimplemented0x28 := rfl
theorem unimplemented0x29 : Statement .unimplemented0x29 := rfl
theorem unimplemented0x2A : Statement .unimplemented0x2A := rfl
theorem unimplemented0x2B : Statement .unimplemented0x2B := rfl
theorem unimplemented0x2C : Statement .unimplemented0x2C := rfl
theorem unimplemented0x2D : Statement .unimplemented0x2D := rfl
theorem unimplemented0x2E : Statement .unimplemented0x2E := rfl
theorem unimplemented0x2F : Statement .unimplemented0x2F := rfl
theorem unimplemented0x30 : Statement .unimplemented0x30 := rfl
theorem unimplemented0x31 : Statement .unimplemented0x31 := rfl
theorem unimplemented0x32 : Statement .unimplemented0x32 := rfl
theorem unimplemented0x34 : Statement .unimplemented0x34 := rfl
theorem unimplemented0x35 : Statement .unimplemented0x35 := rfl
theorem unimplemented0x36 : Statement .unimplemented0x36 := rfl
theorem unimplemented0x37 : Statement .unimplemented0x37 := rfl
theorem unimplemented0x38 : Statement .unimplemented0x38 := rfl
theorem unimplemented0x39 : Statement .unimplemented0x39 := rfl
theorem unimplemented0x3A : Statement .unimplemented0x3A := rfl
theorem unimplemented0x3B : Statement .unimplemented0x3B := rfl
theorem unimplemented0x3C : Statement .unimplemented0x3C := rfl
theorem unimplemented0x3D : Statement .unimplemented0x3D := rfl
theorem unimplemented0x3E : Statement .unimplemented0x3E := rfl
theorem unimplemented0x3F : Statement .unimplemented0x3F := rfl
theorem unimplemented0x40 : Statement .unimplemented0x40 := rfl
theorem unimplemented0x41 : Statement .unimplemented0x41 := rfl
theorem unimplemented0x42 : Statement .unimplemented0x42 := rfl
theorem unimplemented0x43 : Statement .unimplemented0x43 := rfl
theorem unimplemented0x44 : Statement .unimplemented0x44 := rfl
theorem unimplemented0x45 : Statement .unimplemented0x45 := rfl
theorem unimplemented0x46 : Statement .unimplemented0x46 := rfl
theorem unimplemented0x47 : Statement .unimplemented0x47 := rfl
theorem unimplemented0x48 : Statement .unimplemented0x48 := rfl
theorem unimplemented0x49 : Statement .unimplemented0x49 := rfl
theorem unimplemented0x4A : Statement .unimplemented0x4A := rfl
theorem unimplemented0x4B : Statement .unimplemented0x4B := rfl
theorem unimplemented0x4C : Statement .unimplemented0x4C := rfl
theorem unimplemented0x4D : Statement .unimplemented0x4D := rfl
theorem unimplemented0x4E : Statement .unimplemented0x4E := rfl
theorem unimplemented0x4F : Statement .unimplemented0x4F := rfl
theorem unimplemented0x50 : Statement .unimplemented0x50 := rfl
theorem unimplemented0x51 : Statement .unimplemented0x51 := rfl
theorem unimplemented0x52 : Statement .unimplemented0x52 := rfl
theorem unimplemented0x53 : Statement .unimplemented0x53 := rfl
theorem unimplemented0x54 : Statement .unimplemented0x54 := rfl
theorem unimplemented0x55 : Statement .unimplemented0x55 := rfl
theorem unimplemented0x56 : Statement .unimplemented0x56 := rfl
theorem unimplemented0x57 : Statement .unimplemented0x57 := rfl
theorem unimplemented0x58 : Statement .unimplemented0x58 := rfl
theorem unimplemented0x59 : Statement .unimplemented0x59 := rfl
theorem unimplemented0x5A : Statement .unimplemented0x5A := rfl
theorem unimplemented0x5B : Statement .unimplemented0x5B := rfl
theorem unimplemented0x5C : Statement .unimplemented0x5C := rfl
theorem unimplemented0x5D : Statement .unimplemented0x5D := rfl
theorem unimplemented0x5E : Statement .unimplemented0x5E := rfl
theorem unimplemented0x5F : Statement .unimplemented0x5F := rfl
theorem unimplemented0x60 : Statement .unimplemented0x60 := rfl
theorem unimplemented0x61 : Statement .unimplemented0x61 := rfl
theorem unimplemented0x62 : Statement .unimplemented0x62 := rfl
theorem unimplemented0x63 : Statement .unimplemented0x63 := rfl
theorem unimplemented0x64 : Statement .unimplemented0x64 := rfl
theorem unimplemented0x65 : Statement .unimplemented0x65 := rfl
theorem unimplemented0x66 : Statement .unimplemented0x66 := rfl
theorem unimplemented0x67 : Statement .unimplemented0x67 := rfl
theorem unimplemented0x68 : Statement .unimplemented0x68 := rfl
theorem unimplemented0x69 : Statement .unimplemented0x69 := rfl
theorem unimplemented0x6A : Statement .unimplemented0x6A := rfl
theorem unimplemented0x6B : Statement .unimplemented0x6B := rfl
theorem unimplemented0x6C : Statement .unimplemented0x6C := rfl
theorem unimplemented0x6D : Statement .unimplemented0x6D := rfl
theorem unimplemented0x6E : Statement .unimplemented0x6E := rfl
theorem unimplemented0x6F : Statement .unimplemented0x6F := rfl
theorem unimplemented0x70 : Statement .unimplemented0x70 := rfl
theorem unimplemented0x71 : Statement .unimplemented0x71 := rfl
theorem unimplemented0x72 : Statement .unimplemented0x72 := rfl
theorem unimplemented0x73 : Statement .unimplemented0x73 := rfl
theorem unimplemented0x74 : Statement .unimplemented0x74 := rfl
theorem unimplemented0x75 : Statement .unimplemented0x75 := rfl
theorem unimplemented0x76 : Statement .unimplemented0x76 := rfl
theorem unimplemented0x77 : Statement .unimplemented0x77 := rfl
theorem unimplemented0x78 : Statement .unimplemented0x78 := rfl
theorem unimplemented0x79 : Statement .unimplemented0x79 := rfl
theorem unimplemented0x7A : Statement .unimplemented0x7A := rfl
theorem unimplemented0x7B : Statement .unimplemented0x7B := rfl
theorem unimplemented0x7C : Statement .unimplemented0x7C := rfl
theorem unimplemented0x7D : Statement .unimplemented0x7D := rfl
theorem unimplemented0x7E : Statement .unimplemented0x7E := rfl
theorem unimplemented0x7F : Statement .unimplemented0x7F := rfl

end Sys2Proof.Laws.EncodedOpcode
end

