-- ==== Sys2Proof/Laws/Run.lean ====
section
/-!
SUPPORT. A run of the machine, one step at a time, in the model's own names for its state and its step.
-/

namespace Sys2Proof.Machine

theorem run_zero (s : State) : core.run 0 s = .next s := rfl

theorem run_succ_of_next {s t : State} (h : step s = .next t) (n : Nat) : core.run (n + 1) s = core.run n t := by
  have h' : core.step s = .next t := h
  simp only [Host.Core.run, h']

theorem run_succ_of_fault {s : State} {r : Fault} (h : step s = .fault r) (n : Nat) :
    core.run (n + 1) s = .fault r := by
  have h' : core.step s = .fault r := h
  simp only [Host.Core.run, h']

theorem run_succ_of_refused {s : State} {r : Refusal} (h : step s = .refused r) (n : Nat) :
    core.run (n + 1) s = .refused r := by
  have h' : core.step s = .refused r := h
  simp only [Host.Core.run, h']

end Sys2Proof.Machine
end

