-- ==== Sys2Proof/Tests/Slice0.lean ====
section
/-!
SUPPORT. Tests with results from the spec's own examples (30_encoding.md R63, 95_test_vectors.md S1 to S10 and 2.1 to 2.6),
and for each statement of the provers that has hypotheses, a state and operands that meet them.
-/

namespace Sys2Proof.Tests
open Sys2Proof.Machine

/-! ### Helpers -/

/-- A machine constructed with the default capacity, then some registers set. -/
def machine (image : List Byte) (regs : List (RegIdx × Word)) : State :=
  regs.foldl (fun s p => s.writeReg p.1 p.2) (State.initial Config.defaultCap (Memory.ofImage image))

/-- A machine whose image is one word. -/
def machineOn (w : Word) (regs : List (RegIdx × Word)) : State := machine (bytesOfWord w) regs

/-- The next state, where there is one. -/
def nextOf (o : Host.Outcome State Fault Refusal) : Option State :=
  match o with
  | .next t => some t
  | .fault _ => none
  | .refused _ => none

/-- The fault, where there is one. -/
def faultOf (o : Host.Outcome State Fault Refusal) : Option Fault :=
  match o with
  | .next _ => none
  | .fault r => some r
  | .refused _ => none

/-- A register of the next state, where there is one. -/
def regAfter (o : Host.Outcome State Fault Refusal) (r : RegIdx) : Option Word := (nextOf o).map (·.readReg r)

/-- pc, status and diagnostics of the next state, where there is one. -/
def endOf (o : Host.Outcome State Fault Refusal) : Option (Word × Status × List Opcode) :=
  (nextOf o).map fun t => (t.pc, t.status, t.diag)

/-! ### WellFormed: one ill-formed term for its one check, and the boundary values it accepts (R53) -/

theorem test_wf_refuses_too_large : (Instr.addi 1#5 0#5 2048#32).wf = false := by decide
theorem test_wf_refuses_too_small : (Instr.addi 1#5 0#5 0xFFFFF7FF#32).wf = false := by decide
theorem test_wf_accepts_bounds :
    (Instr.addi 1#5 0#5 2047#32).wf = true ∧ (Instr.addi 1#5 0#5 0xFFFFF800#32).wf = true := by decide

/-! ### Decoding: words written out from the spec's encodings -/

/-- `addi x8, x0, 2047`, bit by bit in the I-type format (R51). -/
theorem test_addi_bits_decode :
    decodeWord 0b01111111111100000000010000010011#32 = .addi 8#5 0#5 0x000007FF#32 := by decide

/-- `addi x9, x0, -2048` (95_test_vectors.md 2.1). -/
theorem test_addi_negative_decode : decodeWord 0x80000493#32 = .addi 9#5 0#5 0xFFFFF800#32 := by decide

/-- `add x4, x1, x3`, bit by bit in the R-type format (R52). -/
theorem test_add_bits_decode :
    decodeWord 0b00000000001100001000001000110011#32 = .add 4#5 1#5 3#5 := by decide

/-- The standard mul, and and srai words of 95_test_vectors.md 2.1: bits 14:12 and 31:25 are ignored. -/
theorem test_alias_words_decode :
    decodeWord 0x022081B3#32 = .add 3#5 1#5 2#5 ∧ decodeWord 0x0020F1B3#32 = .add 3#5 1#5 2#5 ∧
    decodeWord 0x4040D093#32 = .addi 1#5 1#5 0x404#32 := by decide

/-- All ones is Unknown with opcode 0x7F (95_test_vectors.md 2.1). -/
theorem test_all_ones_decode : decodeWord 0xFFFFFFFF#32 = .unimplemented0x7F := by decide

/-- Bytes in address order, the last example of 95_test_vectors.md 2.1's addi rows. -/
theorem test_bytes_decode :
    decodeBytes [0x13#8, 0xA5#8, 0x70#8, 0x00#8, 0xFF#8] = .ok (.addi 10#5 1#5 7#32, [0xFF#8]) := by rfl

theorem test_three_bytes_refused : decodeBytes [0x13#8, 0#8, 0#8] = .error .fewerThanFourBytes := by rfl

/-- `enc_ADDI` and `enc_ADD` on the words of R63 and 95_test_vectors.md 2.1. -/
theorem test_encode :
    encode (.addi 3#5 1#5 0xFFFFFFFF#32) = 0xFFF08193#32 ∧ encode (.add 4#5 1#5 3#5) = 0x00308233#32 ∧
    encode .unimplemented0x6F = 0x0000006F#32 := by decide

/-- The match words of the rows 0x00 to 0x0F of spec/opcode_table.json, the row of each beside it. -/
def rowWords0 : List (Word × Instr) := [
  (0x00000000#32, .unimplemented0x00), (0x00000001#32, .unimplemented0x01), (0x00000002#32, .unimplemented0x02),
  (0x00000003#32, .unimplemented0x03), (0x00000004#32, .unimplemented0x04), (0x00000005#32, .unimplemented0x05),
  (0x00000006#32, .unimplemented0x06), (0x00000007#32, .unimplemented0x07), (0x00000008#32, .unimplemented0x08),
  (0x00000009#32, .unimplemented0x09), (0x0000000A#32, .unimplemented0x0A), (0x0000000B#32, .unimplemented0x0B),
  (0x0000000C#32, .unimplemented0x0C), (0x0000000D#32, .unimplemented0x0D), (0x0000000E#32, .unimplemented0x0E),
  (0x0000000F#32, .unimplemented0x0F)]

theorem test_rows0_decode : ∀ p ∈ rowWords0, decodeWord p.1 = p.2 := by decide

/-- The match words of the rows 0x10 to 0x1F of spec/opcode_table.json, the row of each beside it. -/
def rowWords1 : List (Word × Instr) := [
  (0x00000010#32, .unimplemented0x10), (0x00000011#32, .unimplemented0x11), (0x00000012#32, .unimplemented0x12),
  (0x00000014#32, .unimplemented0x14), (0x00000015#32, .unimplemented0x15), (0x00000016#32, .unimplemented0x16),
  (0x00000017#32, .unimplemented0x17), (0x00000018#32, .unimplemented0x18), (0x00000019#32, .unimplemented0x19),
  (0x0000001A#32, .unimplemented0x1A), (0x0000001B#32, .unimplemented0x1B), (0x0000001C#32, .unimplemented0x1C),
  (0x0000001D#32, .unimplemented0x1D), (0x0000001E#32, .unimplemented0x1E), (0x0000001F#32, .unimplemented0x1F)]

theorem test_rows1_decode : ∀ p ∈ rowWords1, decodeWord p.1 = p.2 := by decide

/-- The match words of the rows 0x20 to 0x2F of spec/opcode_table.json, the row of each beside it. -/
def rowWords2 : List (Word × Instr) := [
  (0x00000020#32, .unimplemented0x20), (0x00000021#32, .unimplemented0x21), (0x00000022#32, .unimplemented0x22),
  (0x00000023#32, .unimplemented0x23), (0x00000024#32, .unimplemented0x24), (0x00000025#32, .unimplemented0x25),
  (0x00000026#32, .unimplemented0x26), (0x00000027#32, .unimplemented0x27), (0x00000028#32, .unimplemented0x28),
  (0x00000029#32, .unimplemented0x29), (0x0000002A#32, .unimplemented0x2A), (0x0000002B#32, .unimplemented0x2B),
  (0x0000002C#32, .unimplemented0x2C), (0x0000002D#32, .unimplemented0x2D), (0x0000002E#32, .unimplemented0x2E),
  (0x0000002F#32, .unimplemented0x2F)]

theorem test_rows2_decode : ∀ p ∈ rowWords2, decodeWord p.1 = p.2 := by decide

/-- The match words of the rows 0x30 to 0x3F of spec/opcode_table.json, the row of each beside it. -/
def rowWords3 : List (Word × Instr) := [
  (0x00000030#32, .unimplemented0x30), (0x00000031#32, .unimplemented0x31), (0x00000032#32, .unimplemented0x32),
  (0x00000034#32, .unimplemented0x34), (0x00000035#32, .unimplemented0x35), (0x00000036#32, .unimplemented0x36),
  (0x00000037#32, .unimplemented0x37), (0x00000038#32, .unimplemented0x38), (0x00000039#32, .unimplemented0x39),
  (0x0000003A#32, .unimplemented0x3A), (0x0000003B#32, .unimplemented0x3B), (0x0000003C#32, .unimplemented0x3C),
  (0x0000003D#32, .unimplemented0x3D), (0x0000003E#32, .unimplemented0x3E), (0x0000003F#32, .unimplemented0x3F)]

theorem test_rows3_decode : ∀ p ∈ rowWords3, decodeWord p.1 = p.2 := by decide

/-- The match words of the rows 0x40 to 0x4F of spec/opcode_table.json, the row of each beside it. -/
def rowWords4 : List (Word × Instr) := [
  (0x00000040#32, .unimplemented0x40), (0x00000041#32, .unimplemented0x41), (0x00000042#32, .unimplemented0x42),
  (0x00000043#32, .unimplemented0x43), (0x00000044#32, .unimplemented0x44), (0x00000045#32, .unimplemented0x45),
  (0x00000046#32, .unimplemented0x46), (0x00000047#32, .unimplemented0x47), (0x00000048#32, .unimplemented0x48),
  (0x00000049#32, .unimplemented0x49), (0x0000004A#32, .unimplemented0x4A), (0x0000004B#32, .unimplemented0x4B),
  (0x0000004C#32, .unimplemented0x4C), (0x0000004D#32, .unimplemented0x4D), (0x0000004E#32, .unimplemented0x4E),
  (0x0000004F#32, .unimplemented0x4F)]

theorem test_rows4_decode : ∀ p ∈ rowWords4, decodeWord p.1 = p.2 := by decide

/-- The match words of the rows 0x50 to 0x5F of spec/opcode_table.json, the row of each beside it. -/
def rowWords5 : List (Word × Instr) := [
  (0x00000050#32, .unimplemented0x50), (0x00000051#32, .unimplemented0x51), (0x00000052#32, .unimplemented0x52),
  (0x00000053#32, .unimplemented0x53), (0x00000054#32, .unimplemented0x54), (0x00000055#32, .unimplemented0x55),
  (0x00000056#32, .unimplemented0x56), (0x00000057#32, .unimplemented0x57), (0x00000058#32, .unimplemented0x58),
  (0x00000059#32, .unimplemented0x59), (0x0000005A#32, .unimplemented0x5A), (0x0000005B#32, .unimplemented0x5B),
  (0x0000005C#32, .unimplemented0x5C), (0x0000005D#32, .unimplemented0x5D), (0x0000005E#32, .unimplemented0x5E),
  (0x0000005F#32, .unimplemented0x5F)]

theorem test_rows5_decode : ∀ p ∈ rowWords5, decodeWord p.1 = p.2 := by decide

/-- The match words of the rows 0x60 to 0x6F of spec/opcode_table.json, the row of each beside it. -/
def rowWords6 : List (Word × Instr) := [
  (0x00000060#32, .unimplemented0x60), (0x00000061#32, .unimplemented0x61), (0x00000062#32, .unimplemented0x62),
  (0x00000063#32, .unimplemented0x63), (0x00000064#32, .unimplemented0x64), (0x00000065#32, .unimplemented0x65),
  (0x00000066#32, .unimplemented0x66), (0x00000067#32, .unimplemented0x67), (0x00000068#32, .unimplemented0x68),
  (0x00000069#32, .unimplemented0x69), (0x0000006A#32, .unimplemented0x6A), (0x0000006B#32, .unimplemented0x6B),
  (0x0000006C#32, .unimplemented0x6C), (0x0000006D#32, .unimplemented0x6D), (0x0000006E#32, .unimplemented0x6E),
  (0x0000006F#32, .unimplemented0x6F)]

theorem test_rows6_decode : ∀ p ∈ rowWords6, decodeWord p.1 = p.2 := by decide

/-- The match words of the rows 0x70 to 0x7F of spec/opcode_table.json, the row of each beside it. -/
def rowWords7 : List (Word × Instr) := [
  (0x00000070#32, .unimplemented0x70), (0x00000071#32, .unimplemented0x71), (0x00000072#32, .unimplemented0x72),
  (0x00000073#32, .unimplemented0x73), (0x00000074#32, .unimplemented0x74), (0x00000075#32, .unimplemented0x75),
  (0x00000076#32, .unimplemented0x76), (0x00000077#32, .unimplemented0x77), (0x00000078#32, .unimplemented0x78),
  (0x00000079#32, .unimplemented0x79), (0x0000007A#32, .unimplemented0x7A), (0x0000007B#32, .unimplemented0x7B),
  (0x0000007C#32, .unimplemented0x7C), (0x0000007D#32, .unimplemented0x7D), (0x0000007E#32, .unimplemented0x7E),
  (0x0000007F#32, .unimplemented0x7F)]

theorem test_rows7_decode : ∀ p ∈ rowWords7, decodeWord p.1 = p.2 := by decide

/-! ### ADDI and ADD (95_test_vectors.md 2.2, 2.3) -/

/-- S3. -/
theorem test_addi_minus_one : regAfter (step (machineOn 0xFFF08193#32 [(1#5, 5#32)])) 3#5 = some 4#32 := by decide

/-- The srai alias: 0x80000000 + 0x404. -/
theorem test_addi_alias :
    regAfter (step (machineOn 0x4040D093#32 [(1#5, 0x80000000#32)])) 1#5 = some 0x80000404#32 := by decide

/-- The destination is a source of both operands: `add x5, x5, x5`. -/
theorem test_add_doubles : regAfter (step (machineOn 0x005282B3#32 [(5#5, 3#32)])) 5#5 = some 6#32 := by decide

/-- S2: `add x0, x4, x4` leaves x0 at 0 and every register as it was. -/
theorem test_add_into_x0 :
    (nextOf (step (machineOn 0x00420033#32 [(4#5, 9#32)]))).map (·.snapshot) =
      some (machineOn 0x00420033#32 [(4#5, 9#32)]).snapshot := by decide

/-- S5: the wrap is no event and no fault, and the run of one word halts with pc = 4. -/
theorem test_addi_wraps_quietly :
    endOf (step (machineOn 0x00108113#32 [(1#5, 0xFFFFFFFF#32)])) = some (4#32, .halted, []) ∧
    regAfter (step (machineOn 0x00108113#32 [(1#5, 0xFFFFFFFF#32)])) 2#5 = some 0#32 := by decide

/-! ### Unimplemented words (95_test_vectors.md 2.4) -/

/-- jal in an image of two words: the run goes on at pc = 4 with Diag 0x6F. -/
theorem test_jal_is_a_diagnostic :
    endOf (step (machine [0xEF#8, 0#8, 0x80#8, 0#8, 0x13#8, 0#8, 0#8, 0#8] [])) =
      some (4#32, .running, [0x6F#7]) := by decide

/-- sw leaves memory and registers as they were. -/
theorem test_store_changes_nothing :
    (nextOf (step (machineOn 0x00102023#32 [(1#5, 7#32)]))).map (fun t => (t.mem, t.regs, t.diag)) =
      some ((machineOn 0x00102023#32 [(1#5, 7#32)]).mem, (machineOn 0x00102023#32 [(1#5, 7#32)]).regs, [0x23#7]) := by
  decide

/-- Events are appended in order, oldest first (R31). -/
theorem test_diagnostics_in_order :
    endOf (step { machineOn 0x00000073#32 [] with diag := [0x6F#7] }) = some (4#32, .halted, [0x6F#7, 0x73#7]) := by decide

/-! ### The cycle and reset (95_test_vectors.md 2.5, 2.6) -/

/-- L = 3: Faulted(0), pc not advanced. -/
theorem test_partial_word_faults :
    endOf (step (machine [0x93#8, 0x80#8, 0x10#8] [])) = some (0#32, .faulted 0#32, []) := by decide

/-- L = 4: one step, Halted, pc = 4. -/
theorem test_one_word_halts :
    endOf (step (machine [0x93#8, 0x80#8, 0x10#8, 0x00#8] [])) = some (4#32, .halted, []) := by decide

/-- No step from Halted or from Faulted. -/
theorem test_no_step_after_the_end :
    faultOf (step State.reset) = some .runHalted ∧
    faultOf (step { State.reset with status := .faulted 4#32 }) = some (.addressOutOfRange 4#32) := by decide

/-- S8, S10: the empty image. -/
theorem test_reset_registers : State.reset.readReg 2#5 = 134217728#32 ∧ State.reset.readReg 1#5 = 0#32 := by decide

/-- 2.6, second and third row. -/
theorem test_construct_checks_cap :
    (State.construct 0x100#32 (List.replicate 16 0#8)).map (fun s => (s.readReg 2#5, s.status)) =
      some (0x100#32, .running) ∧
    State.construct 4#32 (List.replicate 8 0#8) = none := by decide

/-- A table word is placed where the reset state fetches, and run first. -/
theorem test_placed_word_runs :
    regAfter (step (State.reset.withFetchWord 32 0x00500093)) 1#5 = some 5#32 ∧
    decodeTableWord 32 0x00500093 = some (.addi 1#5 0#5 5#32) := by decide

/-- An image with zero bytes is canonical: they are not listed, and they read 0. -/
theorem test_image_canonical :
    (Memory.ofImage [0x93#8, 0#8, 0x50#8, 0#8]).cells = [(0, 0x93#8), (2, 0x50#8)] ∧
    (Memory.ofImage [0x93#8, 0#8, 0x50#8, 0#8]).read 3 = some 0#8 ∧
    (Memory.ofImage [0x93#8, 0#8, 0x50#8, 0#8]).read 4 = none := by decide

/-! ### Witnesses: every statement with hypotheses has a state and operands that meet them -/

/-- A state near the top of the address space, in the largest memory a CAP allows. -/
def topState (pc : Word) : State :=
  { State.reset with pc := pc, mem := { size := 0xFFFFFFFF, cells := [] }, status := .running }

/-- RunningStepFollowsTheCycle, OutOfRangeFetchEndsTheRunFaulted, RunningMachineAlwaysSteps: L = pc + 1 and L = pc + 3. -/
theorem witness_partial_word :
    (machine [1#8] []).status = .running ∧ (machine [1#8] []).pc.toNat < (machine [1#8] []).mem.size ∧
    (machine [1#8] []).mem.size < (machine [1#8] []).pc.toNat + 4 ∧
    (machine [1#8, 2#8, 3#8] []).pc.toNat < (machine [1#8, 2#8, 3#8] []).mem.size ∧
    (machine [1#8, 2#8, 3#8] []).mem.size < (machine [1#8, 2#8, 3#8] []).pc.toNat + 4 := by decide

/-- RunningStepFollowsTheCycle: L = pc + 4, the last full word. -/
theorem witness_last_full_word :
    (machineOn 0x00500093#32 []).status = .running ∧
    (machineOn 0x00500093#32 []).pc.toNat + 4 ≤ (machineOn 0x00500093#32 []).mem.size := by decide

/-- StepExecutesTheDecodedBytes. -/
theorem witness_decoded_bytes :
    (machineOn 0x00500093#32 []).mem.read 0 = some 0x93#8 ∧ (machineOn 0x00500093#32 []).mem.read 1 = some 0#8 ∧
    (machineOn 0x00500093#32 []).mem.read 2 = some 0x50#8 ∧ (machineOn 0x00500093#32 []).mem.read 3 = some 0#8 ∧
    (Instr.addi 1#5 0#5 5#32).wf = true := by decide

theorem witness_decoded_bytes_decode :
    decodeBytes [0x93#8, 0#8, 0x50#8, 0#8] = .ok (.addi 1#5 0#5 5#32, []) := by rfl

/-- OnlyThreeKindsOfStepAndTheFault, StepRaisesAtMostOneEvent: a next state of each kind (ADDI, ADD, an unimplemented word,
the fault), with the fetched word of the first three. -/
theorem witness_each_kind_of_step :
    (nextOf (step (machineOn 0x00500093#32 []))).isSome ∧
    (machineOn 0x00500093#32 []).mem.readWord 0#32 = some 0x00500093#32 ∧
    (nextOf (step (machineOn 0x002081B3#32 []))).isSome ∧
    (machineOn 0x002081B3#32 []).mem.readWord 0#32 = some 0x002081B3#32 ∧
    (nextOf (step (machineOn 0x00000073#32 []))).isSome ∧
    (machineOn 0x00000073#32 []).mem.readWord 0#32 = some 0x00000073#32 ∧
    (nextOf (step (machine [1#8] []))).isSome ∧ (machine [1#8] []).mem.readWord 0#32 = none := by decide

/-- PcAdvancesByFourWithoutWrap at its largest pc: 0xFFFFFFF8 advances to 0xFFFFFFFC. -/
theorem witness_largest_pc :
    (topState 0xFFFFFFF8#32).Inv ∧ (topState 0xFFFFFFF8#32).mem.readWord 0xFFFFFFF8#32 = some 0#32 ∧
    endOf (step (topState 0xFFFFFFF8#32)) = some (0xFFFFFFFC#32, .running, [0#7]) := by decide

/-- PcAdvancesByFourWithoutWrap, its first clause where the advance does wrap: a state no run reaches. -/
theorem witness_pc_wraps :
    endOf (step { State.reset with pc := 0xFFFFFFFC#32, mem := { size := 0x100000000, cells := [] }, status := .running }) =
      some (0#32, .running, [0#7]) := by decide

/-- RunEndsOnlyAtTheEndOfTheImage, EveryStepKeepsTheInvariant: steps that end Halted, Faulted and Running. -/
theorem witness_each_end :
    (machineOn 0x00500093#32 []).Inv ∧
    endOf (step (machineOn 0x00500093#32 [])) = some (4#32, .halted, []) ∧
    (topState 0xFFFFFFFC#32).Inv ∧
    endOf (step (topState 0xFFFFFFFC#32)) = some (0xFFFFFFFC#32, .faulted 0xFFFFFFFC#32, []) ∧
    (topState 0#32).Inv ∧ endOf (step (topState 0#32)) = some (4#32, .running, [0#7]) := by decide

/-- AddiWordsAddTheSignExtendedImmediate, AddWordsAddTheSourceRegisters, UnimplementedWordsOnlyEmitADiagnostic,
DecodeIsKeyedOnTheOpcode, EncodeOfDecodeKeepsTheExaminedBits: a word of each kind of opcode. -/
theorem witness_each_opcode :
    (0xFFF08193#32 : Word).extractLsb' 0 7 = 0x13#7 ∧ (0x402081B3#32 : Word).extractLsb' 0 7 = 0x33#7 ∧
    (0x00000073#32 : Word).extractLsb' 0 7 ≠ 0x13#7 ∧ (0x00000073#32 : Word).extractLsb' 0 7 ≠ 0x33#7 := by decide

/-- UnimplementedWordsOnlyEmitADiagnostic, its step: a Running machine that fetches such a word. -/
theorem witness_unimplemented_step :
    (machineOn 0x00000073#32 []).status = .running ∧
    (machineOn 0x00000073#32 []).mem.readWord (machineOn 0x00000073#32 []).pc = some 0x00000073#32 := by decide

/-- EveryUnimplementedRowCompletes: the first and the last row, and their number. -/
theorem witness_unimplemented_rows :
    (0x00#7, Instr.unimplemented0x00) ∈ unimplementedTable ∧ (0x7F#7, Instr.unimplemented0x7F) ∈ unimplementedTable ∧
    unimplementedTable.length = 126 :=
  ⟨by decide, List.mem_append_right _ (by decide), by rfl⟩

/-- AddiCompletesAndChangesOnlyRd, AddCompletesAndChangesOnlyRd, SourcesAreReadBeforeTheDestination: a destination that is
not x0, another register, and x0 itself. -/
theorem witness_destinations : (3#5 : RegIdx) ≠ 0#5 ∧ (4#5 : RegIdx) ≠ 3#5 ∧ (0#5 : RegIdx) = 0#5 := by decide

/-- UnexaminedBitsDoNotChangeDecoding: pairs that differ in bits 14:12 (addi, slti), in 31:25 too (add, sra), and in
everything but the opcode (ecall, all ones above it). -/
theorem witness_unexamined_bits :
    ((0x00700093#32 : Word) ^^^ 0x00702093#32) &&& 0xFFFF8FFF#32 = 0#32 ∧ (0x00700093#32 : Word) ≠ 0x00702093#32 ∧
    (0x002081B3#32 : Word).extractLsb' 0 7 = 0x33#7 ∧
    ((0x002081B3#32 : Word) ^^^ 0x4020D1B3#32) &&& 0x01FF8FFF#32 = 0#32 ∧
    (0x00000073#32 : Word).extractLsb' 0 7 = (0xFFFFFFF3#32 : Word).extractLsb' 0 7 := by decide

/-- FormatsPlaceTheFields: `addi x3, x1, -1` and the standard sub word. -/
theorem witness_formats :
    (0xFFF08193#32 : Word).toNat =
      (0xFFF#12).toNat * 2 ^ 20 + (1#5).toNat * 2 ^ 15 + (0#3).toNat * 2 ^ 12 + (3#5).toNat * 2 ^ 7 + 0b0010011 ∧
    (0x402081B3#32 : Word).toNat =
      (0x20#7).toNat * 2 ^ 25 + (2#5).toNat * 2 ^ 20 + (1#5).toNat * 2 ^ 15 + (0#3).toNat * 2 ^ 12 +
        (3#5).toNat * 2 ^ 7 + 0b0110011 := by decide

/-- DecodeOfEncodeIsIdentity: a well-formed instruction of each family; test_wf_accepts_bounds has the bounds. -/
theorem witness_well_formed :
    (Instr.addi 31#5 31#5 0xFFFFFFFF#32).wf = true ∧ (Instr.add 31#5 0#5 31#5).wf = true ∧
    Instr.unimplemented0x73.wf = true := by decide

/-- InstructionsAreFourBytes: a list one byte short, and a word whose bits 1:0 are not 11. -/
theorem witness_short_and_compressed :
    [0x13#8, 0#8, 0#8].length < 4 ∧ (0x00000001#32 : Word).extractLsb' 0 2 ≠ 0b11#2 := by decide

/-- ImmediateIsSignExtended: a word that decodes to ADDI with a negative and one with a positive immediate. -/
theorem witness_immediates :
    decodeWord 0xFFF08193#32 = .addi 3#5 1#5 0xFFFFFFFF#32 ∧ decodeWord 0x7FF00413#32 = .addi 8#5 0#5 0x7FF#32 := by decide

/-- PlacedWordIsTheNextInstruction. -/
theorem witness_canonical_memory : State.reset.mem.wf = true ∧ (machineOn 0x00500093#32 []).mem.wf = true := by decide

/-- RangeCheckedLittleEndianRead: the last address in range and the first out of it. -/
theorem witness_read_bounds :
    (0#32 : Word).toNat + 4 ≤ (machineOn 1#32 []).mem.size ∧ (1#32 : Word).toNat + 4 > (machineOn 1#32 []).mem.size := by decide

/-- MemoryIsAlwaysTheImage, ConstructionLeavesTheResetState, InvariantHoldsAtEveryConstruction, PcIsAlwaysAMultipleOfFour,
EveryRunTerminatesAtTheImageEnd, RunIsTheFoldOfTheImageWords: constructions of length 0, 4 and 5, and at L = CAP. -/
theorem witness_constructions :
    (State.construct 0x08000000#32 []).isSome ∧ (State.construct 4#32 [0x93#8, 0#8, 0x50#8, 0#8]).isSome ∧
    (State.construct 5#32 [0x93#8, 0#8, 0x50#8, 0#8, 1#8]).isSome := by decide

/-- MemoryIsAlwaysTheImage, PcIsAlwaysAMultipleOfFour: a run of one step. -/
theorem witness_run : (nextOf (core.run 1 (machineOn 0x00500093#32 []))).isSome := by decide

/-- MemoryIsAlwaysTheImage: an instruction that completes. -/
theorem witness_exec : (nextOf (exec (.add 1#5 2#5 3#5) State.reset)).isSome := by decide

/-- ImageLongerThanCapMakesNoMachine: at the bound and one byte past it. -/
theorem witness_cap_bounds :
    (List.replicate 4 0#8).length ≤ (4#32 : Word).toNat ∧ (List.replicate 5 0#8).length > (4#32 : Word).toNat := by decide

/-- TerminalStatesAnswerANamedFault. -/
theorem witness_terminal :
    State.reset.status = .halted ∧ ({ State.reset with status := .faulted 0#32 } : State).status = .faulted 0#32 := by decide

end Sys2Proof.Tests
end

section
/-!
SUPPORT. What Execute depends on: it looks at a state only through register reads, and changes one only by a register
write or an emitted event (R69).
-/

namespace Sys2Proof.Machine

/-- An outcome with its next state, if there is one, sent through f. -/
def mapNext (f : State → State) (o : Host.Outcome State Fault Refusal) : Host.Outcome State Fault Refusal :=
  match o with
  | .next t => .next (f t)
  | .fault r => .fault r
  | .refused r => .refused r

@[simp] theorem mapNext_next (f : State → State) (t : State) : mapNext f (.next t) = .next (f t) := rfl
@[simp] theorem mapNext_fault (f : State → State) (r : Fault) : mapNext f (.fault r) = .fault r := rfl
@[simp] theorem mapNext_refused (f : State → State) (r : Refusal) : mapNext f (.refused r) = .refused r := rfl

theorem exec_addi (rd rs1 : RegIdx) (imm : Word) (s : State) :
    exec (.addi rd rs1 imm) s = .next (s.writeReg rd (s.readReg rs1 + imm)) := rfl

theorem exec_add (rd rs1 rs2 : RegIdx) (s : State) :
    exec (.add rd rs1 rs2) s = .next (s.writeReg rd (s.readReg rs1 + s.readReg rs2)) := rfl

/-- An instruction that is neither ADDI nor ADD emits its opcode (R79). -/
theorem exec_of_opcode_ne {i : Instr} (h13 : i.opcode ≠ 0x13#7) (h33 : i.opcode ≠ 0x33#7) (s : State) :
    exec i s = .next (s.emitDiag i.opcode) := by
  cases i with
  | addi rd rs1 imm => exact absurd rfl h13
  | add rd rs1 rs2 => exact absurd rfl h33
  | _ => rfl

/-- A change of state that register reads do not see and that commutes with register writes and with emitted events
commutes with Execute. -/
theorem exec_commutes {f : State → State} (hread : ∀ s i, (f s).readReg i = s.readReg i)
    (hwrite : ∀ s i v, (f s).writeReg i v = f (s.writeReg i v))
    (hemit : ∀ s op, (f s).emitDiag op = f (s.emitDiag op)) (i : Instr) (s : State) :
    exec i (f s) = mapNext f (exec i s) := by
  rcases i.cases_opcode with ⟨rd, rs1, imm, rfl⟩ | ⟨rd, rs1, rs2, rfl⟩ | ⟨h13, h33, -⟩
  · simp only [exec_addi, hread, hwrite, mapNext_next]
  · simp only [exec_add, hread, hwrite, mapNext_next]
  · simp only [exec_of_opcode_ne h13 h33, hemit, mapNext_next]

/-- s with another pc, memory and status: what Execute neither reads nor writes. -/
def State.reframe (pc : Word) (mem : Memory) (status : Status) (s : State) : State :=
  { s with pc := pc, mem := mem, status := status }

theorem State.writeReg_reframe (pc : Word) (mem : Memory) (status : Status) (s : State) (i : RegIdx) (v : Word) :
    (s.reframe pc mem status).writeReg i v = (s.writeReg i v).reframe pc mem status := by
  unfold State.writeReg; split <;> rfl

theorem exec_reframe (i : Instr) (pc : Word) (mem : Memory) (status : Status) (s : State) :
    exec i (s.reframe pc mem status) = mapNext (State.reframe pc mem status) (exec i s) :=
  exec_commutes (f := State.reframe pc mem status) (fun _ _ => rfl) (State.writeReg_reframe pc mem status)
    (fun _ _ => rfl) i s

/-- s with the events d put before its own. -/
def State.prependDiag (d : List Opcode) (s : State) : State := { s with diag := d ++ s.diag }

theorem State.writeReg_prependDiag (d : List Opcode) (s : State) (i : RegIdx) (v : Word) :
    (s.prependDiag d).writeReg i v = (s.writeReg i v).prependDiag d := by
  unfold State.writeReg; split <;> rfl

theorem State.emitDiag_prependDiag (d : List Opcode) (s : State) (op : Opcode) :
    (s.prependDiag d).emitDiag op = (s.emitDiag op).prependDiag d := by
  simp [State.prependDiag, State.emitDiag]

theorem State.haltCheck_prependDiag (d : List Opcode) (s : State) :
    (s.prependDiag d).haltCheck = s.haltCheck.prependDiag d := by
  rw [State.haltCheck, State.haltCheck, apply_ite (State.prependDiag d)]; rfl

theorem exec_prependDiag (i : Instr) (d : List Opcode) (s : State) :
    exec i (s.prependDiag d) = mapNext (State.prependDiag d) (exec i s) :=
  exec_commutes (f := State.prependDiag d) (fun _ _ => rfl) (State.writeReg_prependDiag d)
    (State.emitDiag_prependDiag d) i s

theorem afterExecute_prependDiag (d : List Opcode) (o : Host.Outcome State Fault Refusal) :
    afterExecute (mapNext (State.prependDiag d) o) = mapNext (State.prependDiag d) (afterExecute o) := by
  cases o with
  | next t => exact congrArg Host.Outcome.next (t.haltCheck_prependDiag d)
  | fault r => rfl
  | refused r => rfl

/-- A step keeps the events already emitted in front, and nothing else in it depends on them (R31). -/
theorem step_prependDiag (d : List Opcode) (s : State) :
    step (s.prependDiag d) = mapNext (State.prependDiag d) (step s) := by
  have hfetch : (s.prependDiag d).fetchWord = s.fetchWord := rfl
  have hadvance : (s.prependDiag d).advancePc = s.advancePc.prependDiag d := rfl
  have hstatus : (s.prependDiag d).status = s.status := rfl
  cases hs : s.status with
  | running =>
    simp only [step, cycle, hstatus, hs, runningCycle, hfetch, hadvance, exec_prependDiag]
    cases s.fetchWord with
    | none => rfl
    | some w => exact afterExecute_prependDiag d _
  | halted => simp only [step, cycle, hstatus, hs, mapNext_fault]
  | faulted a => simp only [step, cycle, hstatus, hs, mapNext_fault]

/-- The step of a Running machine whose fetch is in range (R64). -/
theorem step_of_fetchWord {s u : State} {w : Word} (hrun : s.status = .running) (hfetch : s.fetchWord = some w)
    (hexec : exec (decodeWord w) s.advancePc = .next u) : step s = .next u.haltCheck := by
  simp only [step, cycle, hrun, runningCycle, hfetch, hexec, afterExecute]

/-- Execute always completes, and leaves the pc, the memory, the status and the cell of x0 as they were (R93). -/
theorem exec_frame (i : Instr) (s : State) :
    ∃ t, exec i s = .next t ∧ t.pc = s.pc ∧ t.mem = s.mem ∧ t.status = s.status ∧ t.regs[0] = s.regs[0] := by
  rcases exec_cases i s with ⟨rd, v, he⟩ | he
  · exact ⟨_, he, by simp⟩
  · exact ⟨_, he, by simp⟩

/-- A step after a fetch in range is the loop condition on a state that has only pc + 4, registers other than x0 and
events changed. -/
theorem step_fetched {s t : State} (h : step s = .next t) {w : Word} (hfetch : s.fetchWord = some w) :
    ∃ u : State, t = u.haltCheck ∧ u.pc = s.pc + 4#32 ∧ u.mem = s.mem ∧ u.status = .running ∧
      u.regs[0] = s.regs[0] := by
  obtain ⟨hrun, -⟩ := step_cases h
  obtain ⟨u, hexec, hpc, hmem, hstatus, hcell⟩ := exec_frame (decodeWord w) s.advancePc
  rw [step_of_fetchWord hrun hfetch hexec] at h
  cases h
  exact ⟨u, rfl, hpc, hmem, hstatus.trans hrun, hcell⟩

/-- A step after a fetch in range advances the pc by 4 (R23, R67). -/
theorem step_fetched_pc {s t : State} (h : step s = .next t) {w : Word} (hfetch : s.fetchWord = some w) :
    t.pc = s.pc + 4#32 := by
  obtain ⟨u, rfl, hpc, -⟩ := step_fetched h hfetch
  rw [State.haltCheck_pc, hpc]

/-- A step after a fetch out of range is the fault, at the pc (R90). -/
theorem step_not_fetched {s t : State} (h : step s = .next t) (hfetch : s.fetchWord = none) :
    t = s.raiseAddressOutOfRange s.pc := by
  obtain ⟨-, ⟨-, ht⟩ | ⟨w, hw, -⟩⟩ := step_cases h
  · exact ht
  · rw [hfetch] at hw; cases hw

end Sys2Proof.Machine
end

section
/-!
SUPPORT. The invariant of the run loop: it holds at every construction, every step keeps it, and so every run does.
-/

namespace Sys2Proof.Machine

/-- From an address below 2^32 - 4 the pc advance does not wrap (R23). -/
theorem toNat_add_four {a : Word} (h : a.toNat + 4 < 2 ^ 32) : (a + 4#32).toNat = a.toNat + 4 := by
  rw [BitVec.toNat_add]; exact Nat.mod_eq_of_lt h

/-- The status agrees with the pc once the loop condition has been tested, if the pc has not passed L. -/
theorem State.haltCheck_statusFits {u : State} (hrun : u.status = .running) (hpc : u.pc.toNat ≤ u.mem.size) :
    u.haltCheck.statusFits = true := by
  by_cases hend : u.mem.size ≤ u.pc.toNat
  · simp [State.statusFits, State.haltCheck_status, Nat.le_antisymm hpc hend]
  · simpa [State.statusFits, State.haltCheck_status, hend, hrun] using Nat.lt_of_not_le hend

/-- In a state of a run with a whole word left before L, the run has not ended. -/
theorem State.Inv.status_running {s : State} (h : s.Inv) (hpc : s.pc.toNat + 4 ≤ s.mem.size) : s.status = .running := by
  obtain ⟨-, -, -, -, hfits⟩ := h
  unfold State.statusFits at hfits
  split at hfits
  · assumption
  · simp only [decide_eq_true_eq] at hfits; omega
  · simp only [decide_eq_true_eq] at hfits; omega

/-- In a Running state of a run the pc lies below L (R24). -/
theorem State.Inv.pc_lt_size {s : State} (h : s.Inv) (hrun : s.status = .running) : s.pc.toNat < s.mem.size := by
  obtain ⟨-, -, -, -, hfits⟩ := h
  simpa [State.statusFits, hrun] using hfits

/-- The fault of the fetch keeps the invariant: it leaves the pc at the partial last word (R65). -/
theorem inv_of_fetchWord_none {s : State} (h : s.Inv) (hrun : s.status = .running) (hfetch : s.fetchWord = none) :
    (s.raiseAddressOutOfRange s.pc).Inv := by
  have hlt := h.pc_lt_size hrun
  have hend := State.fetchWord_eq_none hfetch
  obtain ⟨hwf, hsize, hpc, hcell, -⟩ := h
  exact ⟨hwf, hsize, hpc, hcell, by simp [State.statusFits, hlt, hend]⟩

/-- Every step keeps the invariant: the fault leaves the pc at a partial word, and any other step tests the loop condition
on a pc that the range check of the fetch holds to L. -/
theorem step_keeps_inv {s t : State} (h : s.Inv) (hstep : step s = .next t) : t.Inv := by
  obtain ⟨hrun, -⟩ := step_cases hstep
  cases hfetch : s.fetchWord with
  | none =>
    rw [step_not_fetched hstep hfetch]
    exact inv_of_fetchWord_none h hrun hfetch
  | some w =>
    obtain ⟨u, rfl, hupc, humem, hurun, hucell⟩ := step_fetched hstep hfetch
    obtain ⟨hwf, hsize, hpc, hcell, -⟩ := h
    have hword := (State.fetchWord_eq_some hfetch).1
    have hadv : u.pc.toNat = s.pc.toNat + 4 := by rw [hupc]; exact toNat_add_four (by omega)
    have hfits := State.haltCheck_statusFits hurun (by rw [hadv, humem]; exact hword)
    refine ⟨by simpa [humem], by simpa [humem], ?_, by simpa [hucell], hfits⟩
    rw [State.haltCheck_pc, hadv]; omega

/-- An image that CAP admits, and the state construction leaves for it (R105, R106). -/
theorem construct_eq_some {cap : Word} {image : List Byte} {s : State} (h : State.construct cap image = some s) :
    image.length ≤ cap.toNat ∧ s = State.initial cap (Memory.ofImage image) := by
  unfold State.construct at h
  split at h
  · exact ⟨‹_›, by cases h; rfl⟩
  · cases h

theorem initialRegs_cell_zero (cap : Word) : (initialRegs cap)[0] = 0#32 := by simp [initialRegs]

theorem statusFits_initial (cap : Word) (m : Memory) : (State.initial cap m).statusFits = true := by
  by_cases hm : m.size = 0
  · simp [State.statusFits, initialStatus, hm]
  · simpa [State.statusFits, initialStatus, hm] using Nat.pos_of_ne_zero hm

theorem construct_inv {cap : Word} {image : List Byte} {s : State} (h : State.construct cap image = some s) :
    s.Inv := by
  obtain ⟨hlen, rfl⟩ := construct_eq_some h
  have hsize : image.length ≤ 0xFFFFFFFF := by have := cap.isLt; omega
  exact ⟨Memory.ofImage_wf image, hsize, rfl, initialRegs_cell_zero cap, statusFits_initial cap _⟩

/-- Every state of a run from a state that meets the invariant meets it. -/
theorem run_keeps_inv {s t : State} (h : s.Inv) (n : Nat) (hrun : core.run n s = .next t) : t.Inv := by
  induction n generalizing s with
  | zero => cases hrun; exact h
  | succ n ih =>
    cases hstep : step s with
    | next s' =>
      rw [run_succ_of_next hstep] at hrun
      exact ih (step_keeps_inv h hstep) hrun
    | fault r => rw [run_succ_of_fault hstep] at hrun; cases hrun
    | refused r => rw [run_succ_of_refused hstep] at hrun; cases hrun

/-- Settles O40, by the step lemma of the invariant. -/
theorem everyStepKeepsTheInvariant : Obligations.EveryStepKeepsTheInvariant :=
  fun _ _ h hstep => step_keeps_inv h hstep

/-- Settles O8: the sum without wrap from the range check of the fetch, which holds pc + 4 to L. -/
theorem pcAdvancesByFourWithoutWrap : Obligations.PcAdvancesByFourWithoutWrap := by
  constructor
  · rintro s t hstep ⟨w, hword⟩
    rw [step_fetched_pc hstep hword, BitVec.toNat_add, BitVec.toNat_ofNat]
  · rintro s t ⟨-, hsize, hpc, -, -⟩ hstep ⟨w, hword⟩
    have hle := (State.fetchWord_eq_some hword).1
    rw [step_fetched_pc hstep hword, toNat_add_four (by omega)]
    omega

/-- Settles O39, field by field of the state of construction. -/
theorem invariantHoldsAtEveryConstruction : Obligations.InvariantHoldsAtEveryConstruction :=
  fun _ _ _ h => construct_inv h

/-- Settles O38: State.reset is the construction of the empty image. -/
theorem invariantHoldsAtReset : Obligations.InvariantHoldsAtReset :=
  construct_inv (cap := Config.defaultCap) (image := []) rfl

/-- Settles O41: the pc clause of the invariant, along the run. -/
theorem pcIsAlwaysAMultipleOfFour : Obligations.PcIsAlwaysAMultipleOfFour := by
  intro cap image s t n hconstruct hrun
  obtain ⟨-, -, hpc, -, -⟩ := run_keeps_inv (construct_inv hconstruct) n hrun
  exact hpc

end Sys2Proof.Machine
end

section
/-!
SUPPORT. The snapshot, entry by entry, and the statements about registers, about what Execute and a step depend on, and
about the placed word.
-/

namespace Sys2Proof.Machine

@[simp] theorem State.snapshot_length (s : State) : s.snapshot.length = 32 := by simp [State.snapshot]

/-- Entry n of the snapshot is a read of register n (R29). -/
theorem State.snapshot_getElem (s : State) (n : Nat) (h : n < s.snapshot.length) :
    s.snapshot[n] = s.readReg (BitVec.ofNat 5 n) := by
  simp [State.snapshot]

theorem State.snapshot_getElem?_toNat (s : State) (i : RegIdx) : s.snapshot[i.toNat]? = some (s.readReg i) := by
  have hi : i.toNat < s.snapshot.length := by rw [State.snapshot_length]; exact i.isLt
  rw [List.getElem?_eq_getElem hi, State.snapshot_getElem, BitVec.ofNat_toNat, BitVec.setWidth_eq]

theorem State.snapshot_zero (s : State) : s.snapshot[0]? = some 0#32 := by
  rw [← s.readReg_zero]; exact s.snapshot_getElem?_toNat 0#5

/-- A write replaces the register's own entry of the snapshot (R17, R29). -/
theorem State.snapshot_writeReg (s : State) {i : RegIdx} (hi : i ≠ 0#5) (v : Word) :
    (s.writeReg i v).snapshot = s.snapshot.set i.toNat v := by
  refine List.ext_getElem (by simp) fun n hn _ => ?_
  have hn32 : n < 2 ^ 5 := by simpa using hn
  rw [List.getElem_set, State.snapshot_getElem, State.snapshot_getElem, State.readReg_writeReg]
  have hiff : BitVec.ofNat 5 n = i ↔ i.toNat = n := by
    rw [BitVec.toNat_eq, BitVec.toNat_ofNat, Nat.mod_eq_of_lt hn32, eq_comm]
  by_cases h : BitVec.ofNat 5 n = i
  · rw [if_pos ⟨h ▸ hi, h⟩, if_pos (hiff.mp h)]
  · rw [if_neg fun ⟨_, heq⟩ => h heq, if_neg fun heq => h (hiff.mpr heq)]

/-- Settles O20: the register rule for reads, and its image in the snapshot. -/
theorem writesToX0AreDiscarded : Obligations.WritesToX0AreDiscarded := by
  intro s i j v
  refine ⟨?_, ?_, s.snapshot_zero, State.readReg_zero _⟩
  · by_cases hj : j = 0#5
    · subst hj; simp
    · simp [State.readReg_writeReg, hj]
  · by_cases hi : i = 0#5
    · subst hi; simp
    · rw [if_neg hi, s.snapshot_writeReg hi]

/-- Settles O21: each entry is the read of its register, and x0 reads 0. -/
theorem snapshotListsTheRegistersInOrder : Obligations.SnapshotListsTheRegistersInOrder :=
  fun s => ⟨s.snapshot_length, s.snapshot_zero, s.snapshot_getElem?_toNat⟩

/-- Settles O14: the write of the sum goes to x0, and is discarded. -/
theorem additionIntoX0ChangesNothing : Obligations.AdditionIntoX0ChangesNothing := by
  intro rs1 rs2 imm s
  rw [exec_addi, exec_add, State.writeReg_zero, State.writeReg_zero]
  exact ⟨rfl, rfl⟩

/-- Settles O18: Execute commutes with any change of pc, memory and status. -/
theorem executeIgnoresPcMemoryAndStatus : Obligations.ExecuteIgnoresPcMemoryAndStatus := by
  intro i s pc mem status
  obtain ⟨t, hexec, hpc, hmem, hstatus, -⟩ := exec_frame i s
  have hreframe := exec_reframe i pc mem status s
  rw [hexec] at hreframe
  exact ⟨t, hexec, hpc, hmem, hstatus, hreframe⟩

/-- Settles O22: a state with stream d is the one with the empty stream, with d put in front. -/
theorem diagnosticsAreOutputOnly : Obligations.DiagnosticsAreOutputOnly := by
  intro s d
  have hsplit : ({ s with diag := d } : State) = State.prependDiag d { s with diag := [] } := by
    simp [State.prependDiag]
  rw [hsplit, step_prependDiag]
  cases step { s with diag := [] } <;> rfl

theorem decodeTableWord_eq (nbits w : Nat) : decodeTableWord nbits w = some (decodeWord (tableWord nbits w)) := by
  simp [decodeTableWord, bytesOfWord, decodeBytes]

/-- The placed word is the one fetched: its four cells are the word's bytes, and all are backed (log entry 6). -/
theorem State.fetchWord_withFetchWord {s : State} (h : s.mem.wf = true) (nbits w : Nat) :
    (s.withFetchWord nbits w).fetchWord = some (tableWord nbits w) := by
  have hbacked : ¬ s.pc.toNat + 4 > (s.mem.placeWord s.pc.toNat (tableWord nbits w)).size := by
    rw [Memory.placeWord_size]; omega
  unfold State.fetchWord Memory.readWord
  rw [State.withFetchWord_mem, State.withFetchWord_pc, if_neg hbacked]
  simp [Memory.cellAt_placeWord h]

/-- Settles O32: the step fetches the placed word, and the loop condition changes the status only. -/
theorem placedWordIsTheNextInstruction : Obligations.PlacedWordIsTheNextInstruction := by
  intro s nbits w hwf
  refine ⟨decodeTableWord_eq nbits w, ?_⟩
  obtain ⟨t, hexec, -⟩ := exec_frame (decodeWord (tableWord nbits w)) (s.withFetchWord nbits w).advancePc
  have hstep := step_of_fetchWord rfl (State.fetchWord_withFetchWord hwf nbits w) hexec
  exact ⟨t, t.haltCheck, hexec, hstep, by simp⟩

end Sys2Proof.Machine
end

section
/-!
SUPPORT. A whole run as the fold of the words it fetches (R71).
-/

namespace Sys2Proof.Machine

/-! ### One word -/

theorem wordsDiag_append (us ws : List Word) : wordsDiag (us ++ ws) = wordsDiag us ++ wordsDiag ws := by
  simp only [wordsDiag, List.map_append, List.filter_append]

theorem wordsDiag_of_addition {w : Word} (h : opcodeField w = 0x13#7 ∨ opcodeField w = 0x33#7) :
    wordsDiag [w] = [] := by
  unfold opcodeField at h
  rcases h with h | h <;> simp [wordsDiag, h]

theorem wordsDiag_of_other {w : Word} (h13 : opcodeField w ≠ 0x13#7) (h33 : opcodeField w ≠ 0x33#7) :
    wordsDiag [w] = [opcodeField w] := by
  unfold opcodeField at *
  simp [wordsDiag, h13, h33]

theorem wordOnRegs_of_addi {w : Word} (h : opcodeField w = 0x13#7) (x : RegIdx → Word) (r : RegIdx) :
    wordOnRegs x w r =
      if r ≠ 0#5 ∧ r = rdField w then x (rs1Field w) + sext12 (immField w) else x r := by
  by_cases hr : r ≠ 0#5 ∧ r = rdField w
  · exact (if_pos ⟨hr.1, hr.2, h⟩).trans (if_pos hr).symm
  · rw [if_neg hr, wordOnRegs, if_neg fun ⟨hne, hrd, _⟩ => hr ⟨hne, hrd⟩,
      if_neg fun ⟨hne, hrd, _⟩ => hr ⟨hne, hrd⟩]

theorem wordOnRegs_of_add {w : Word} (h : opcodeField w = 0x33#7) (x : RegIdx → Word) (r : RegIdx) :
    wordOnRegs x w r =
      if r ≠ 0#5 ∧ r = rdField w then x (rs1Field w) + x (rs2Field w) else x r := by
  have h13 : opcodeField w ≠ 0x13#7 := by rw [h]; decide
  rw [wordOnRegs, if_neg fun ⟨_, _, hop⟩ => h13 hop]
  by_cases hr : r ≠ 0#5 ∧ r = rdField w
  · exact (if_pos ⟨hr.1, hr.2, h⟩).trans (if_pos hr).symm
  · rw [if_neg hr, if_neg fun ⟨hne, hrd, _⟩ => hr ⟨hne, hrd⟩]

theorem wordOnRegs_of_other {w : Word} (h13 : opcodeField w ≠ 0x13#7) (h33 : opcodeField w ≠ 0x33#7)
    (x : RegIdx → Word) : wordOnRegs x w = x := by
  unfold opcodeField at *
  funext r
  simp [wordOnRegs, h13, h33]

/-- Execute of a decoded word does to the registers what wordOnRegs says, and emits the word's event if it has one
(R75, R77, R79). -/
theorem exec_decodeWord (w : Word) (s : State) :
    ∃ t, exec (decodeWord w) s = .next t ∧ t.readReg = wordOnRegs s.readReg w ∧ t.diag = s.diag ++ wordsDiag [w] := by
  by_cases h13 : opcodeField w = 0x13#7
  · rw [decodeWord_of_addi h13, exec_addi]
    refine ⟨_, rfl, ?_, by simp [wordsDiag_of_addition (.inl h13)]⟩
    funext r
    rw [wordOnRegs_of_addi h13, State.readReg_writeReg]
  · by_cases h33 : opcodeField w = 0x33#7
    · rw [decodeWord_of_add h33, exec_add]
      refine ⟨_, rfl, ?_, by simp [wordsDiag_of_addition (.inr h33)]⟩
      funext r
      rw [wordOnRegs_of_add h33, State.readReg_writeReg]
    · rw [exec_of_opcode_ne (by simpa) (by simpa), decodeWord_opcode]
      exact ⟨_, rfl, (wordOnRegs_of_other h13 h33 _).symm, by simp [wordsDiag_of_other h13 h33]⟩

/-! ### The words in memory -/

/-- The words the fetch finds at a, a + 4 and so on are these. -/
def Memory.HoldsWords (m : Memory) (a : Word) (ws : List Word) : Prop :=
  match ws with
  | [] => True
  | w :: rest => m.readWord a = some w ∧ m.HoldsWords (a + 4#32) rest

theorem Memory.holdsWords_nil (m : Memory) (a : Word) : m.HoldsWords a [] := trivial

/-- Four bytes of an image are the word at their address (R33, R35). -/
theorem Memory.readWord_ofImage (pre rest : List Byte) (b0 b1 b2 b3 : Byte) (h : pre.length < 2 ^ 32) :
    (Memory.ofImage (pre ++ b0 :: b1 :: b2 :: b3 :: rest)).readWord (BitVec.ofNat 32 pre.length) =
      some (wordOfBytes b0 b1 b2 b3) := by
  have haddr : (BitVec.ofNat 32 pre.length).toNat = pre.length := by
    rw [BitVec.toNat_ofNat, Nat.mod_eq_of_lt h]
  have hcell : ∀ k, cellAt (cellsFrom 0 (pre ++ b0 :: b1 :: b2 :: b3 :: rest)) (pre.length + k) =
      (b0 :: b1 :: b2 :: b3 :: rest).getD k 0#8 := by
    intro k
    have hk := cellAt_cellsFrom 0 (pre ++ b0 :: b1 :: b2 :: b3 :: rest) (pre.length + k)
    rwa [Nat.zero_add, List.getD_append_right _ _ _ _ (Nat.le_add_right _ _), Nat.add_sub_cancel_left] at hk
  have h0 := hcell 0
  rw [Nat.add_zero] at h0
  unfold Memory.readWord Memory.ofImage
  rw [haddr, if_neg (by simp)]
  simp [h0, hcell]

/-- A loaded image holds its words, from any address in it on (R33, R35). -/
theorem Memory.ofImage_holdsWords (suffix pre : List Byte) (h : (pre ++ suffix).length < 2 ^ 32) :
    (Memory.ofImage (pre ++ suffix)).HoldsWords (BitVec.ofNat 32 pre.length) (imageWords suffix) := by
  induction suffix using imageWords.induct generalizing pre with
  | case1 b0 b1 b2 b3 rest ih =>
    have hpre : pre.length < 2 ^ 32 := by rw [List.length_append] at h; omega
    refine ⟨Memory.readWord_ofImage pre rest b0 b1 b2 b3 hpre, ?_⟩
    have hnext := ih (pre ++ [b0, b1, b2, b3]) (by simpa using h)
    simpa [BitVec.ofNat_add] using hnext
  | case2 suffix hshort => exact (imageWords.eq_2 suffix hshort).symm ▸ Memory.holdsWords_nil _ _

theorem imageWords_length (image : List Byte) : (imageWords image).length = image.length / 4 := by
  induction image using imageWords.induct with
  | case1 b0 b1 b2 b3 rest ih => simp only [imageWords, List.length_cons, ih]; omega
  | case2 image hshort =>
    have hlt : image.length < 4 := by
      match image, hshort with
      | [], _ | [_], _ | [_, _], _ | [_, _, _], _ => simp
      | b0 :: b1 :: b2 :: b3 :: rest, hshort => exact absurd rfl (hshort b0 b1 b2 b3 rest)
    rw [imageWords.eq_2 image hshort, Nat.div_eq_of_lt hlt, List.length_nil]

/-! ### The run -/

/-- One step over a word in memory (R64). -/
theorem step_over_word {s : State} {w : Word} (hinv : s.Inv) (hword : s.mem.readWord s.pc = some w) :
    ∃ t, step s = .next t ∧ t.readReg = wordOnRegs s.readReg w ∧ t.diag = s.diag ++ wordsDiag [w] ∧
      t.pc = s.pc + 4#32 ∧ t.mem = s.mem := by
  have hrun := hinv.status_running (State.fetchWord_eq_some hword).1
  obtain ⟨u, hexec, hregs, hdiag⟩ := exec_decodeWord w s.advancePc
  have hstep := step_of_fetchWord hrun hword hexec
  obtain ⟨v, hexec', hpc, hmem, -⟩ := exec_frame (decodeWord w) s.advancePc
  rw [hexec] at hexec'
  cases hexec'
  refine ⟨u.haltCheck, hstep, ?_, by simpa using hdiag, by simpa using hpc, by simpa using hmem⟩
  funext r
  rw [State.readReg_haltCheck, hregs]
  rfl

/-- A run over the words at the pc is their fold over the registers, and appends their events (R71). -/
theorem run_over_words (ws : List Word) {s : State} (hinv : s.Inv) (hwords : s.mem.HoldsWords s.pc ws) :
    ∃ t : State, core.run ws.length s = .next t ∧ t.readReg = ws.foldl wordOnRegs s.readReg ∧
      t.diag = s.diag ++ wordsDiag ws := by
  induction ws generalizing s with
  | nil => exact ⟨s, rfl, rfl, by simp [wordsDiag]⟩
  | cons w ws ih =>
    obtain ⟨hword, hrest⟩ := hwords
    obtain ⟨s', hstep, hregs, hdiag, hpc, hmem⟩ := step_over_word hinv hword
    obtain ⟨t, hrun, htregs, htdiag⟩ := ih (step_keeps_inv hinv hstep) (by rwa [hpc, hmem])
    refine ⟨t, (run_succ_of_next hstep _).trans hrun, ?_, ?_⟩
    · rw [htregs, hregs, List.foldl_cons]
    · rw [htdiag, hdiag, List.append_assoc, ← wordsDiag_append, List.singleton_append]

/-- The reset registers: all 0 but x2, which is CAP (R19). -/
theorem readReg_initial (cap : Word) (m : Memory) (r : RegIdx) :
    (State.initial cap m).readReg r = if r = 2#5 then cap else 0#32 := by
  by_cases h2 : r = 2#5
  · subst h2; simp [State.readReg, initialRegs]
  · have hne : 2 ≠ r.toNat := fun e => h2 (BitVec.eq_of_toNat_eq e.symm)
    simp [State.readReg, initialRegs, h2, hne]

/-- Settles O43: the run over the words of the whole image, from the state of construction. -/
theorem runIsTheFoldOfTheImageWords : Obligations.RunIsTheFoldOfTheImageWords := by
  intro cap image s hconstruct
  have hinv := construct_inv hconstruct
  obtain ⟨hlen, rfl⟩ := construct_eq_some hconstruct
  have hfits : image.length < 2 ^ 32 := Nat.lt_of_le_of_lt hlen cap.isLt
  obtain ⟨t, hrun, hregs, hdiag⟩ := run_over_words (imageWords image) hinv (Memory.ofImage_holdsWords image [] hfits)
  rw [imageWords_length] at hrun
  rw [funext (readReg_initial cap (Memory.ofImage image))] at hregs
  exact ⟨t, hrun, congrFun hregs, hdiag⟩

end Sys2Proof.Machine
end

section
/-!
SUPPORT. The two formats as one packing of fields, so that decoding an encoded instruction reads back field after
field; and instructions as byte lists (R35, R48 to R56, R62).
-/

namespace Sys2Proof

/-- A word from its fields, with bits 14:12 zero: the I-type format (R51), and the R-type format with bits 31:25 and 24:20
taken together (R52). -/
def packFields (high : Imm12) (rs1 rd : RegIdx) (op : Opcode) : Word :=
  (high.setWidth 32 <<< 20) ||| (rs1.setWidth 32 <<< 15) ||| (rd.setWidth 32 <<< 7) ||| op.setWidth 32

section
variable (high : Imm12) (rs1 rd : RegIdx) (op : Opcode)

/-- The bits of a packed word: each field at its own place. -/
theorem getLsbD_packFields (j : Nat) :
    (packFields high rs1 rd op).getLsbD j =
      (decide (j < 32) && (decide (20 ≤ j) && high.getLsbD (j - 20) || decide (15 ≤ j) && rs1.getLsbD (j - 15) ||
        decide (7 ≤ j) && rd.getLsbD (j - 7) || op.getLsbD j)) := by
  simp only [packFields, BitVec.getLsbD_or, BitVec.getLsbD_shiftLeft, BitVec.getLsbD_setWidth]
  grind

@[simp] theorem opcodeField_packFields : opcodeField (packFields high rs1 rd op) = op := by
  ext j hj
  simp only [opcodeField, BitVec.getElem_extractLsb', getLsbD_packFields]
  grind

@[simp] theorem rdField_packFields : rdField (packFields high rs1 rd op) = rd := by
  ext j hj
  simp only [rdField, BitVec.getElem_extractLsb', getLsbD_packFields]
  grind

@[simp] theorem rs1Field_packFields : rs1Field (packFields high rs1 rd op) = rs1 := by
  ext j hj
  simp only [rs1Field, BitVec.getElem_extractLsb', getLsbD_packFields]
  grind

@[simp] theorem immField_packFields : immField (packFields high rs1 rd op) = high := by
  ext j hj
  simp only [immField, BitVec.getElem_extractLsb', getLsbD_packFields]
  grind

end

/-- The field rs2 is the low five bits of the immediate field (R49). -/
theorem rs2Field_eq_immField (w : Word) : rs2Field w = (immField w).setWidth 5 := by
  ext j hj
  grind [rs2Field, immField]

theorem encAddi_eq_packFields (rd rs1 : RegIdx) (imm : Word) :
    encAddi rd rs1 imm = packFields (imm.setWidth 12) rs1 rd 0x13#7 := by
  have hlow : imm &&& 0xFFF#32 = (imm.setWidth 12).setWidth 32 := by
    apply BitVec.eq_of_toNat_eq
    rw [BitVec.toNat_setWidth_of_le (by decide), BitVec.toNat_setWidth]
    exact Nat.and_two_pow_sub_one_eq_mod imm.toNat 12
  rw [encAddi, hlow]
  rfl

theorem encAdd_eq_packFields (rd rs1 rs2 : RegIdx) :
    encAdd rd rs1 rs2 = packFields (rs2.setWidth 12) rs1 rd 0x33#7 := by
  simp [encAdd, packFields]

theorem encUnimplemented_eq_packFields (op : Opcode) : encUnimplemented op = packFields 0#12 0#5 0#5 op := by
  simp [encUnimplemented, packFields]

/-- An immediate in range is the sign extension of its low 12 bits (R53). -/
theorem sext12_setWidth {imm : Word} (h : immInRange imm = true) : sext12 (imm.setWidth 12) = imm := by
  obtain ⟨hlo, hhi⟩ := (immInRange_iff imm).mp h
  apply BitVec.eq_of_toInt_eq
  rw [sext12_toInt, ← BitVec.signExtend_eq_setWidth_of_le _ (by decide),
    BitVec.toInt_signExtend_eq_toInt_bmod_of_le _ (by decide), Int.bmod_eq_of_le (by omega) (by omega)]

/-- The word of an unimplemented row holds that row's opcode and zeros. -/
theorem encode_of_opcode_ne {i : Instr} (h13 : i.opcode ≠ 0x13#7) (h33 : i.opcode ≠ 0x33#7) :
    encode i = packFields 0#12 0#5 0#5 i.opcode := by
  rw [← encUnimplemented_eq_packFields]
  cases i with
  | addi rd rs1 imm => exact absurd rfl h13
  | add rd rs1 rs2 => exact absurd rfl h33
  | _ => rfl

/-- Decode undoes encode on the well-formed instructions (R62). -/
theorem decodeWord_encode {i : Instr} (h : i.wf = true) : decodeWord (encode i) = i := by
  rcases i.cases_opcode with ⟨rd, rs1, imm, rfl⟩ | ⟨rd, rs1, rs2, rfl⟩ | ⟨h13, h33, hrow⟩
  · rw [encode, encAddi_eq_packFields, decodeWord_of_addi (by simp), rdField_packFields, rs1Field_packFields,
      immField_packFields, sext12_setWidth h]
  · rw [encode, encAdd_eq_packFields, decodeWord_of_add (by simp), rdField_packFields, rs1Field_packFields,
      rs2Field_eq_immField, immField_packFields, BitVec.setWidth_setWidth_of_le _ (by decide), BitVec.setWidth_eq]
  · rw [encode_of_opcode_ne h13 h33, decodeWord_of_other (by simpa) (by simpa), opcodeField_packFields, ← hrow]

/-- The four bytes of a word decode to the word's instruction, and leave what follows them (R35, R48). -/
theorem decodeBytes_bytesOfWord (w : Word) (rest : List Byte) :
    decodeBytes (bytesOfWord w ++ rest) = .ok (decodeWord w, rest) := by
  simp [bytesOfWord, decodeBytes]

/-- Settles O26: the round trip on words, and the word's four bytes put together again. -/
theorem decodeOfEncodeIsIdentity : Obligations.DecodeOfEncodeIsIdentity := by
  intro i hwf
  refine ⟨decodeWord_encode hwf, fun rest => ?_⟩
  rw [encodeBytes, decodeBytes_bytesOfWord, decodeWord_encode hwf]

theorem decodeBytes_of_length_lt {bytes : List Byte} (h : bytes.length < 4) :
    decodeBytes bytes = .error .fewerThanFourBytes := by
  match bytes, h with
  | [], _ | [_], _ | [_, _], _ | [_, _, _], _ => rfl

/-- The opcodes of ADDI and ADD end in 11 (R59). -/
theorem opcode_ne_of_lowBits_ne {op : Opcode} (h : op.extractLsb' 0 2 ≠ 0b11#2) : op ≠ 0x13#7 ∧ op ≠ 0x33#7 := by
  constructor
  · rintro rfl; exact h rfl
  · rintro rfl; exact h rfl

/-- The table in closed form: the opcodes in order, without those of ADDI and ADD, each with its row (R56). -/
theorem unimplementedTable_eq_map :
    Machine.unimplementedTable =
      (((List.range 128).map (BitVec.ofNat 7)).filter fun op => op ≠ 0x13#7 ∧ op ≠ 0x33#7).map
        fun op => (op, unimplementedOf op) := by
  rfl

/-- What stands in the table: every opcode but 0x13 and 0x33, beside the row the decoder takes for it (R56). -/
theorem mem_unimplementedTable {op : Opcode} {i : Instr} :
    (op, i) ∈ Machine.unimplementedTable ↔ op ≠ 0x13#7 ∧ op ≠ 0x33#7 ∧ i = unimplementedOf op := by
  have hall : ∃ n ∈ List.range 128, BitVec.ofNat 7 n = op :=
    ⟨op.toNat, List.mem_range.mpr op.isLt, BitVec.ofNat_toNat ..⟩
  simp only [unimplementedTable_eq_map, List.mem_map, List.mem_filter, decide_eq_true_eq, Prod.mk.injEq]
  constructor
  · rintro ⟨op, ⟨-, h13, h33⟩, rfl, rfl⟩
    exact ⟨h13, h33, rfl⟩
  · rintro ⟨h13, h33, rfl⟩
    exact ⟨op, ⟨hall, h13, h33⟩, rfl, rfl⟩

/-- Settles O29: a case per length of the short list, and the opcode's own low bits for the last clause. -/
theorem instructionsAreFourBytes : Obligations.InstructionsAreFourBytes := by
  refine ⟨fun _ => decodeBytes_of_length_lt, fun bytes w => decodeBytes_bytesOfWord w bytes, fun w hlow => ?_⟩
  have hbits : (opcodeField w).extractLsb' 0 2 = w.extractLsb' 0 2 := BitVec.extractLsb'_extractLsb'_of_le (by decide)
  obtain ⟨h13, h33⟩ := opcode_ne_of_lowBits_ne (by rwa [hbits])
  rw [decodeWord_of_other h13 h33]
  exact mem_unimplementedTable.mpr ⟨h13, h33, rfl⟩

end Sys2Proof
end

section
/-!
SUPPORT. What a word read answers, byte by byte (R34, R35), and that nothing writes memory (R36).
-/

namespace Sys2Proof.Machine

theorem toNat_append_eq_add {m n : Nat} (x : BitVec m) (y : BitVec n) :
    (x ++ y).toNat = 2 ^ n * x.toNat + y.toNat := by
  rw [BitVec.toNat_append, ← Nat.shiftLeft_add_eq_or_of_lt y.isLt, Nat.shiftLeft_eq, Nat.mul_comm]

/-- The bytes of a word side by side, the one at the highest address in front (R35). -/
theorem wordOfBytes_eq_append (b0 b1 b2 b3 : Byte) : wordOfBytes b0 b1 b2 b3 = b3 ++ b2 ++ b1 ++ b0 := by
  ext j hj
  grind [wordOfBytes]

/-- The value of a little-endian word (R35). -/
theorem toNat_wordOfBytes (b0 b1 b2 b3 : Byte) :
    (wordOfBytes b0 b1 b2 b3).toNat = b0.toNat + 2 ^ 8 * b1.toNat + 2 ^ 16 * b2.toNat + 2 ^ 24 * b3.toNat := by
  rw [wordOfBytes_eq_append, toNat_append_eq_add, toNat_append_eq_add, toNat_append_eq_add]
  omega

/-- Settles O33: in range, the four bytes are backed cells, and the word has their little-endian value. -/
theorem rangeCheckedLittleEndianRead : Obligations.RangeCheckedLittleEndianRead := by
  refine fun m addr => ⟨fun hout => if_pos hout, fun hin => ?_⟩
  have hbyte : ∀ a < m.size, m.read a = some (cellAt m.cells a) := fun a ha => if_pos ha
  exact ⟨_, _, _, _, _, hbyte _ (by omega), hbyte _ (by omega), hbyte _ (by omega), hbyte _ (by omega),
    if_neg (by omega), toNat_wordOfBytes _ _ _ _⟩

theorem exec_mem {i : Instr} {s t : State} (h : exec i s = .next t) : t.mem = s.mem := by
  obtain ⟨u, hu, -, hmem, -⟩ := exec_frame i s
  rw [hu] at h
  cases h
  exact hmem

theorem step_mem {s t : State} (h : step s = .next t) : t.mem = s.mem := by
  obtain ⟨-, ⟨-, rfl⟩ | ⟨w, -, ⟨rd, v, rfl⟩ | rfl⟩⟩ := step_cases h <;> simp

/-- What every step keeps, every run keeps. -/
theorem run_keeps {P : State → Prop} (hkeep : ∀ s t, P s → step s = .next t → P t) {s t : State} (hs : P s) (n : Nat)
    (hrun : core.run n s = .next t) : P t := by
  induction n generalizing s with
  | zero => cases hrun; exact hs
  | succ n ih =>
    cases hstep : step s with
    | next u => rw [run_succ_of_next hstep] at hrun; exact ih (hkeep s u hs hstep) hrun
    | fault r => rw [run_succ_of_fault hstep] at hrun; cases hrun
    | refused r => rw [run_succ_of_refused hstep] at hrun; cases hrun

theorem run_mem {s t : State} {n : Nat} (hrun : core.run n s = .next t) : t.mem = s.mem :=
  run_keeps (P := fun u => u.mem = s.mem) (fun _ _ hu hstep => (step_mem hstep).trans hu) rfl n hrun

/-- Settles O34: a run keeps the memory of its construction, which gives the image back. -/
theorem memoryIsAlwaysTheImage : Obligations.MemoryIsAlwaysTheImage := by
  refine ⟨fun _ _ _ => exec_mem, fun _ _ => step_mem, fun cap image s t n hconstruct hrun => ?_⟩
  obtain ⟨-, rfl⟩ := construct_eq_some hconstruct
  rw [run_mem hrun]
  exact ⟨rfl, Memory.read_ofImage image⟩

end Sys2Proof.Machine
end

section
/-!
SUPPORT. The examined bits of a word: which ones the decoder sees, and the word that encode builds from them
(R50 to R56, R62).
-/

namespace Sys2Proof

/-- A mask keeps every field it covers. -/
theorem extractLsb'_and_of_covered {n lo len : Nat} {mask : BitVec n} (h : mask.extractLsb' lo len = BitVec.allOnes len)
    (w : BitVec n) : (w &&& mask).extractLsb' lo len = w.extractLsb' lo len := by
  rw [BitVec.extractLsb'_and, h, BitVec.and_allOnes]

/-- A mask clears every field it leaves out. -/
theorem extractLsb'_and_of_cleared {n lo len : Nat} {mask : BitVec n} (h : mask.extractLsb' lo len = 0#len)
    (w : BitVec n) : (w &&& mask).extractLsb' lo len = 0#len := by
  rw [BitVec.extractLsb'_and, h, BitVec.and_zero]

/-- Words that agree under a mask agree in every field the mask covers. -/
theorem extractLsb'_eq_of_masked_xor {n lo len : Nat} {w v mask : BitVec n} (h : (w ^^^ v) &&& mask = 0#n)
    (hmask : mask.extractLsb' lo len = BitVec.allOnes len) : w.extractLsb' lo len = v.extractLsb' lo len := by
  have hxor : w.extractLsb' lo len ^^^ v.extractLsb' lo len = 0#len := by
    rw [← BitVec.extractLsb'_xor, ← extractLsb'_and_of_covered hmask, h, BitVec.extractLsb'_zero]
  exact BitVec.xor_eq_zero_iff.mp hxor

/-- The decoder sees the opcode and the fields rd, rs1 and imm, of which rs2 is a part, and nothing else (R50, R55). -/
theorem decodeWord_congr {w v : Word} (hop : opcodeField w = opcodeField v) (hrd : rdField w = rdField v)
    (hrs1 : rs1Field w = rs1Field v) (himm : immField w = immField v) : decodeWord w = decodeWord v := by
  simp only [decodeWord, rs2Field_eq_immField, hop, hrd, hrs1, himm]

/-- Settles O23: one equation of the decoder per kind of opcode. -/
theorem decodeIsKeyedOnTheOpcode : Obligations.DecodeIsKeyedOnTheOpcode := fun _ =>
  ⟨decodeWord_of_addi, decodeWord_of_add, fun h13 h33 =>
    mem_unimplementedTable.mpr ⟨h13, h33, decodeWord_of_other h13 h33⟩⟩

/-- Settles O24: each mask covers the fields that decide the instruction. -/
theorem unexaminedBitsDoNotChangeDecoding : Obligations.UnexaminedBitsDoNotChangeDecoding := by
  refine ⟨fun w v h => ?_, fun w v hw h => ?_, fun w v h13 h33 hop => ?_⟩
  · have hfield {lo len : Nat} := extractLsb'_eq_of_masked_xor (lo := lo) (len := len) h
    exact decodeWord_congr (hfield (by decide)) (hfield (by decide)) (hfield (by decide)) (hfield (by decide))
  · have hfield {lo len : Nat} := extractLsb'_eq_of_masked_xor (lo := lo) (len := len) h
    have hv : opcodeField v = 0x33#7 := (hfield (by decide)).symm.trans hw
    have hrd : rdField w = rdField v := hfield (by decide)
    have hrs1 : rs1Field w = rs1Field v := hfield (by decide)
    have hrs2 : rs2Field w = rs2Field v := hfield (by decide)
    rw [decodeWord_of_add hw, decodeWord_of_add hv, hrd, hrs1, hrs2]
  · have hv : opcodeField w = opcodeField v := hop
    rw [decodeWord_of_other h13 h33, decodeWord_of_other (hv ▸ h13) (hv ▸ h33), hv]

/-- A word from its fields side by side, bits 14:12 among them: the I-type format (R51), and the R-type format with bits
31:25 and 24:20 taken together (R52). -/
def layFields (high : Imm12) (rs1 : RegIdx) (low : BitVec 3) (rd : RegIdx) (op : Opcode) : Word :=
  high ++ rs1 ++ low ++ rd ++ op

section
variable (high : Imm12) (rs1 : RegIdx) (low : BitVec 3) (rd : RegIdx) (op : Opcode)

theorem toNat_layFields : (layFields high rs1 low rd op).toNat =
    high.toNat * 2 ^ 20 + rs1.toNat * 2 ^ 15 + low.toNat * 2 ^ 12 + rd.toNat * 2 ^ 7 + op.toNat := by
  simp only [layFields, Machine.toNat_append_eq_add]
  omega

@[simp] theorem opcodeField_layFields : opcodeField (layFields high rs1 low rd op) = op :=
  BitVec.extractLsb'_append_eq_right

/-- Above the opcode, a field of the word is a field of what the opcode was appended to. -/
theorem extractLsb'_layFields {lo len : Nat} (h : 7 ≤ lo) :
    (layFields high rs1 low rd op).extractLsb' lo len = (high ++ rs1 ++ low ++ rd).extractLsb' (lo - 7) len :=
  BitVec.extractLsb'_append_eq_of_le h

@[simp] theorem rdField_layFields : rdField (layFields high rs1 low rd op) = rd := by
  rw [rdField, extractLsb'_layFields _ _ _ _ _ (by decide)]
  exact BitVec.extractLsb'_append_eq_right

@[simp] theorem rs1Field_layFields : rs1Field (layFields high rs1 low rd op) = rs1 := by
  rw [rs1Field, extractLsb'_layFields _ _ _ _ _ (by decide), BitVec.extractLsb'_append_eq_of_le (by decide),
    BitVec.extractLsb'_append_eq_of_le (by decide)]
  exact BitVec.extractLsb'_append_eq_right

@[simp] theorem immField_layFields : immField (layFields high rs1 low rd op) = high := by
  rw [immField, extractLsb'_layFields _ _ _ _ _ (by decide), BitVec.extractLsb'_append_eq_of_le (by decide),
    BitVec.extractLsb'_append_eq_of_le (by decide)]
  exact BitVec.extractLsb'_append_eq_left

end

/-- Settles O25: an R-type word is an I-type one whose high field is bits 31:25 and rs2 side by side. -/
theorem formatsPlaceTheFields : Obligations.FormatsPlaceTheFields := by
  refine fun w imm rs1 rs2 rd ignoredLow ignoredHigh => ⟨fun h => ?_, fun h => ?_⟩
  · obtain rfl : w = layFields imm rs1 ignoredLow rd 0x13#7 :=
      BitVec.eq_of_toNat_eq (h.trans (toNat_layFields imm rs1 ignoredLow rd 0x13#7).symm)
    rw [decodeWord_of_addi (opcodeField_layFields ..), rdField_layFields, rs1Field_layFields, immField_layFields,
      sext12]
  · obtain rfl : w = layFields (ignoredHigh ++ rs2) rs1 ignoredLow rd 0x33#7 := by
      apply BitVec.eq_of_toNat_eq
      rw [h, toNat_layFields, Machine.toNat_append_eq_add, BitVec.toNat_ofNat]
      omega
    rw [decodeWord_of_add (opcodeField_layFields ..), rdField_layFields, rs1Field_layFields, rs2Field_eq_immField,
      immField_layFields, BitVec.setWidth_append_eq_right]

/-- The fields of a word packed again: the word with its bits 14:12 cleared. -/
theorem packFields_fields (w : Word) :
    packFields (immField w) (rs1Field w) (rdField w) (opcodeField w) = w &&& 0xFFFF8FFF#32 := by
  apply BitVec.eq_of_getLsbD_eq
  intro j hj
  have hmask : (0xFFFF8FFF#32).getLsbD j = (decide (j < 12) || decide (15 ≤ j)) := by
    interval_cases j <;> rfl
  rw [getLsbD_packFields, BitVec.getLsbD_and, hmask]
  grind [opcodeField, rdField, rs1Field, immField]

/-- Packed fields are a masked word when they are its fields and the mask clears bits 14:12. -/
theorem packFields_eq_and {w mask : Word} {high : Imm12} {rs1 rd : RegIdx} {op : Opcode}
    (hmask : mask &&& 0xFFFF8FFF#32 = mask) (hhigh : immField (w &&& mask) = high) (hrs1 : rs1Field (w &&& mask) = rs1)
    (hrd : rdField (w &&& mask) = rd) (hop : opcodeField (w &&& mask) = op) :
    packFields high rs1 rd op = w &&& mask := by
  rw [← hhigh, ← hrs1, ← hrd, ← hop, packFields_fields, BitVec.and_assoc, hmask]

/-- Without bits 31:25, the immediate field holds rs2 alone (R49). -/
theorem immField_and_of_rs2 (w : Word) : immField (w &&& 0x01FF8FFF#32) = (rs2Field w).setWidth 12 := by
  have hmask : immField 0x01FF8FFF#32 = 0x1F#12 := by decide
  have hlow : immField w &&& 0x1F#12 = ((immField w).setWidth 5).setWidth 12 := by
    apply BitVec.eq_of_toNat_eq
    rw [BitVec.toNat_setWidth_of_le (by decide), BitVec.toNat_setWidth]
    exact Nat.and_two_pow_sub_one_eq_mod _ 5
  rw [rs2Field_eq_immField, ← hlow, ← hmask]
  exact BitVec.extractLsb'_and

/-- The low 12 bits of a sign-extended immediate are the field (R53). -/
@[simp] theorem setWidth_sext12 (f : Imm12) : (sext12 f).setWidth 12 = f := by
  ext j hj
  grind [sext12]

/-- Settles O27: encode packs the decoded fields, and each is that field of the masked word. -/
theorem encodeOfDecodeKeepsTheExaminedBits : Obligations.EncodeOfDecodeKeepsTheExaminedBits := by
  refine fun w => ⟨fun hop => ?_, fun hop => ?_, fun h13 h33 => ?_⟩
  · rw [decodeWord_of_addi hop, encode, encAddi_eq_packFields, setWidth_sext12, ← hop]
    exact packFields_fields w
  · rw [decodeWord_of_add hop, encode, encAdd_eq_packFields, ← hop]
    exact packFields_eq_and (by decide) (immField_and_of_rs2 w) (extractLsb'_and_of_covered (by decide) w)
      (extractLsb'_and_of_covered (by decide) w) (extractLsb'_and_of_covered (by decide) w)
  · rw [encode_of_opcode_ne (by rwa [decodeWord_opcode]) (by rwa [decodeWord_opcode]), decodeWord_opcode]
    exact packFields_eq_and (by decide) (extractLsb'_and_of_cleared (by decide) w)
      (extractLsb'_and_of_cleared (by decide) w) (extractLsb'_and_of_cleared (by decide) w)
      (extractLsb'_and_of_covered (by decide) w)

/-- A sign-extended 12-bit field is in range (R53). -/
theorem immInRange_sext12 (f : Imm12) : immInRange (sext12 f) = true := by
  rw [immInRange_iff, sext12_toInt]
  exact ⟨BitVec.le_toInt f, Int.le_sub_one_of_lt BitVec.toInt_lt⟩

/-- Settles O28: only the immediate of ADDI has a range. -/
theorem everyWordDecodesWellFormed : Obligations.EveryWordDecodesWellFormed := by
  intro w
  by_cases h13 : opcodeField w = 0x13#7
  · rw [decodeWord_of_addi h13]
    exact immInRange_sext12 _
  · by_cases h33 : opcodeField w = 0x33#7
    · rw [decodeWord_of_add h33]
      rfl
    · rw [decodeWord_of_other h13 h33]
      exact unimplementedOf_wf _

/-- A word that decodes to ADDI gives it the sign extension of its own field (R53, R55). -/
theorem imm_of_decodeWord_eq_addi {w : Word} {rd rs1 : RegIdx} {imm : Word} (h : decodeWord w = .addi rd rs1 imm) :
    imm = sext12 (immField w) := by
  have hop : opcodeField w = 0x13#7 := by rw [← decodeWord_opcode, h]; rfl
  rw [decodeWord_of_addi hop] at h
  injection h with _ _ himm
  exact himm.symm

/-- Bit 31 of a word is the sign of its immediate field (R53). -/
theorem toInt_immField_neg_iff (w : Word) : (immField w).toInt < 0 ↔ w.getLsbD 31 = true := by
  have hmsb : (immField w).msb = w.getLsbD 31 := by simp [immField, BitVec.msb_eq_getLsbD_last]
  rw [← hmsb, BitVec.msb_eq_toInt, decide_eq_true_iff]

/-- Settles O31: signed value, range, sign and low bits of the sign extension. -/
theorem immediateIsSignExtended : Obligations.ImmediateIsSignExtended := by
  refine ⟨fun w rd rs1 imm h => ?_, by decide⟩
  obtain rfl := imm_of_decodeWord_eq_addi h
  obtain ⟨hlo, hhi⟩ := (immInRange_iff _).mp (immInRange_sext12 (immField w))
  refine ⟨sext12_toInt _, hlo, hhi, ?_, ?_⟩
  · rw [sext12_toInt, toInt_immField_neg_iff]
  · exact setWidth_sext12 (immField w)

/-- Settles O30: the seven fixed words, each run through the decoder. -/
theorem workedExampleWordsDecode : Obligations.WorkedExampleWordsDecode := by
  unfold Obligations.WorkedExampleWordsDecode
  decide

/-- Settles O16: a row of the table has neither opcode of the two additions, so Execute emits its own. -/
theorem everyUnimplementedRowCompletes : Obligations.EveryUnimplementedRowCompletes := by
  rintro ⟨op, i⟩ hrow s
  obtain ⟨h13, h33, rfl⟩ := mem_unimplementedTable.mp hrow
  have hop := unimplementedOf_opcode op h13 h33
  rw [Machine.exec_of_opcode_ne (by rwa [hop]) (by rwa [hop]), hop]
  rfl

end Sys2Proof
end

section
/-!
SUPPORT. The cycle: what each kind of step does, and where a run ends (R64 to R73).
-/

namespace Sys2Proof.Machine

/-! ### The step of each run state -/

theorem step_of_halted {s : State} (h : s.status = .halted) : step s = .fault .runHalted := by
  simp only [step, cycle, h]

theorem step_of_faulted {s : State} {a : Word} (h : s.status = .faulted a) : step s = .fault (.addressOutOfRange a) := by
  simp only [step, cycle, h]

/-- The range check of the fetch fails exactly when a byte of the word at pc is not backed (R34). -/
theorem State.fetchWord_of_size_lt {s : State} (h : s.mem.size < s.pc.toNat + 4) : s.fetchWord = none := if_pos h

theorem State.fetchWord_of_le_size {s : State} (h : s.pc.toNat + 4 ≤ s.mem.size) : ∃ w, s.fetchWord = some w :=
  ⟨_, if_neg (Nat.not_lt.mpr h)⟩

/-- The step of a Running machine whose fetch is out of range (R65, R90). -/
theorem step_of_size_lt {s : State} (hrun : s.status = .running) (h : s.mem.size < s.pc.toNat + 4) :
    step s = .next (s.raiseAddressOutOfRange s.pc) := by
  simp only [step, cycle, hrun, runningCycle, State.fetchWord_of_size_lt h]

/-- Settles O4: the step by the run state. -/
theorem terminalStatesAnswerANamedFault : Obligations.TerminalStatesAnswerANamedFault :=
  ⟨fun _ h => step_of_halted h, fun _ _ h => step_of_faulted h⟩

/-- Settles O1: the range check decides between the fault and the execution of the fetched word, which completes. -/
theorem runningStepFollowsTheCycle : Obligations.RunningStepFollowsTheCycle := by
  refine fun s hrun => ⟨step_of_size_lt hrun, fun hin => ?_⟩
  obtain ⟨w, hfetch⟩ := State.fetchWord_of_le_size hin
  obtain ⟨t, hexec, -⟩ := exec_frame (decodeWord w) s.advancePc
  exact ⟨w, t, hfetch, hexec, step_of_fetchWord hrun hfetch hexec⟩

theorem Memory.read_eq_some {m : Memory} {a : Nat} {b : Byte} (h : m.read a = some b) :
    a < m.size ∧ cellAt m.cells a = b := by
  unfold Memory.read at h
  split at h
  · exact ⟨‹_›, by cases h; rfl⟩
  · cases h

/-- Four backed bytes are the word at their address (R34, R35). -/
theorem Memory.readWord_of_read {m : Memory} {a : Word} {b0 b1 b2 b3 : Byte} (h0 : m.read a.toNat = some b0)
    (h1 : m.read (a.toNat + 1) = some b1) (h2 : m.read (a.toNat + 2) = some b2) (h3 : m.read (a.toNat + 3) = some b3) :
    m.readWord a = some (wordOfBytes b0 b1 b2 b3) := by
  obtain ⟨-, rfl⟩ := Memory.read_eq_some h0
  obtain ⟨-, rfl⟩ := Memory.read_eq_some h1
  obtain ⟨-, rfl⟩ := Memory.read_eq_some h2
  obtain ⟨hlast, rfl⟩ := Memory.read_eq_some h3
  exact if_neg (by omega)

/-- Settles O2: the four bytes are the fetched word, and i is what it decodes to. -/
theorem stepExecutesTheDecodedBytes : Obligations.StepExecutesTheDecodedBytes := by
  intro s b0 b1 b2 b3 i hrun h0 h1 h2 h3 hdecode _
  obtain rfl : decodeWord (wordOfBytes b0 b1 b2 b3) = i := by cases hdecode; rfl
  obtain ⟨t, hexec, -⟩ := exec_frame (decodeWord (wordOfBytes b0 b1 b2 b3)) s.advancePc
  have hstep := step_of_fetchWord hrun (Memory.readWord_of_read h0 h1 h2 h3) hexec
  rw [State.advancePc] at hexec
  rw [hexec]
  exact hstep

/-! ### The kinds of step -/

/-- A step after a fetch in range is never the fault: it ends Halted or Running by the loop condition (R64, R70). -/
theorem step_fetched_status {s t : State} (h : step s = .next t) {w : Word} (hfetch : s.fetchWord = some w) :
    t.status = if (s.pc + 4#32).toNat ≥ s.mem.size then .halted else .running := by
  obtain ⟨u, rfl, hpc, hmem, hrun, -⟩ := step_fetched h hfetch
  rw [State.haltCheck_status, hpc, hmem, hrun]

theorem step_fetched_not_faulted {s t : State} (h : step s = .next t) {w : Word} (hfetch : s.fetchWord = some w)
    (a : Word) : t.status ≠ .faulted a := by
  rw [step_fetched_status h hfetch]
  split <;> nofun

/-- A step after a fetch in range runs Execute of the fetched word, and then tests the loop condition (R64). -/
theorem exec_of_step_fetched {s t : State} (h : step s = .next t) {w : Word} (hfetch : s.fetchWord = some w) :
    ∃ u, exec (decodeWord w) s.advancePc = .next u ∧ t = u.haltCheck := by
  obtain ⟨hrun, -⟩ := step_cases h
  obtain ⟨u, hexec, -⟩ := exec_frame (decodeWord w) s.advancePc
  rw [step_of_fetchWord hrun hfetch hexec] at h
  cases h
  exact ⟨u, hexec, rfl⟩

/-- A step over a word does to the registers what wordOnRegs says, and emits the word's event if it has one. -/
theorem step_fetched_effect {s t : State} (h : step s = .next t) {w : Word} (hfetch : s.fetchWord = some w) :
    t.readReg = wordOnRegs s.readReg w ∧ t.diag = s.diag ++ wordsDiag [w] := by
  obtain ⟨u, hexec, rfl⟩ := exec_of_step_fetched h hfetch
  obtain ⟨v, hexec', hregs, hdiag⟩ := exec_decodeWord w s.advancePc
  cases hexec.symm.trans hexec'
  exact ⟨(funext u.readReg_haltCheck).trans hregs, u.haltCheck_diag.trans hdiag⟩

/-- A step over an unimplemented word leaves every register cell as it was (R79). -/
theorem step_fetched_regs_of_other {s t : State} (h : step s = .next t) {w : Word} (hfetch : s.fetchWord = some w)
    (h13 : opcodeField w ≠ 0x13#7) (h33 : opcodeField w ≠ 0x33#7) : t.regs = s.regs := by
  obtain ⟨u, hexec, rfl⟩ := exec_of_step_fetched h hfetch
  rw [exec_of_opcode_ne (by rwa [decodeWord_opcode]) (by rwa [decodeWord_opcode])] at hexec
  cases hexec
  simp

/-- Settles O6: the range check separates the fault, and the opcode of the fetched word the other three kinds. -/
theorem onlyThreeKindsOfStepAndTheFault : Obligations.OnlyThreeKindsOfStepAndTheFault := by
  intro s t hstep
  refine ⟨step_mem hstep, ?_⟩
  cases hfetch : s.fetchWord with
  | none => exact .inr ⟨State.fetchWord_eq_none hfetch, step_not_fetched hstep hfetch⟩
  | some w =>
    obtain ⟨hregs, hdiag⟩ := step_fetched_effect hstep hfetch
    refine .inl ⟨w, hfetch, step_fetched_pc hstep hfetch, step_fetched_status hstep hfetch, ?_⟩
    by_cases h13 : opcodeField w = 0x13#7
    · rw [wordsDiag_of_addition (.inl h13), List.append_nil] at hdiag
      exact .inl ⟨h13, hdiag, fun r => (congrFun hregs r).trans (wordOnRegs_of_addi h13 _ r)⟩
    · by_cases h33 : opcodeField w = 0x33#7
      · rw [wordsDiag_of_addition (.inr h33), List.append_nil] at hdiag
        exact .inr (.inl ⟨h33, hdiag, fun r => (congrFun hregs r).trans (wordOnRegs_of_add h33 _ r)⟩)
      · rw [wordsDiag_of_other h13 h33] at hdiag
        exact .inr (.inr ⟨h13, h33, step_fetched_regs_of_other hstep hfetch h13 h33, hdiag⟩)

/-! ### Where a run ends -/

/-- A Halted state of a run has its pc at L (R70). -/
theorem State.Inv.pc_of_halted {s : State} (h : s.Inv) (hhalt : s.status = .halted) : s.pc.toNat = s.mem.size := by
  obtain ⟨-, -, -, -, hfits⟩ := h
  simpa [State.statusFits, hhalt] using hfits

/-- A Faulted state of a run has its pc at the partial last word, and names it (R65, R90). -/
theorem State.Inv.pc_of_faulted {s : State} {a : Word} (h : s.Inv) (hfault : s.status = .faulted a) :
    a = s.pc ∧ s.pc.toNat < s.mem.size ∧ s.mem.size < s.pc.toNat + 4 := by
  obtain ⟨-, -, -, -, hfits⟩ := h
  simpa [State.statusFits, hfault] using hfits

/-- With its pc at L, a state of a run is Halted. -/
theorem State.Inv.status_halted {s : State} (h : s.Inv) (hpc : s.pc.toNat = s.mem.size) : s.status = .halted := by
  cases hs : s.status with
  | running => have := h.pc_lt_size hs; omega
  | halted => rfl
  | faulted a => obtain ⟨-, hlt, -⟩ := h.pc_of_faulted hs; omega

/-- With its pc below L, a state of a run that has not faulted is Running. -/
theorem State.Inv.status_running_of_not_faulted {s : State} (h : s.Inv) (hpc : s.pc.toNat < s.mem.size)
    (hfault : ∀ a, s.status ≠ .faulted a) : s.status = .running := by
  cases hs : s.status with
  | running => rfl
  | halted => have := h.pc_of_halted hs; omega
  | faulted a => exact absurd hs (hfault a)

/-- A step that ends Faulted is the fault of the fetch, which leaves the pc as it was (R65, R73). -/
theorem step_faulted_pc {s t : State} {a : Word} (h : step s = .next t) (hfault : t.status = .faulted a) :
    t.pc = s.pc := by
  cases hfetch : s.fetchWord with
  | none => rw [step_not_fetched h hfetch, State.raiseAddressOutOfRange_pc]
  | some w => exact absurd hfault (step_fetched_not_faulted h hfetch a)

/-- Settles O9: the invariant of the next state, whose pc is a multiple of 4. -/
theorem runEndsOnlyAtTheEndOfTheImage : Obligations.RunEndsOnlyAtTheEndOfTheImage := by
  intro s t hinv hstep
  have htinv := step_keeps_inv hinv hstep
  obtain ⟨-, -, haligned, -, -⟩ := step_keeps_inv hinv hstep
  refine ⟨fun hhalt => ?_, fun a hfault => ?_, htinv.pc_lt_size⟩
  · have hend := htinv.pc_of_halted hhalt
    exact ⟨hend, hend ▸ haligned⟩
  · obtain ⟨rfl, hlt, hend⟩ := htinv.pc_of_faulted hfault
    exact ⟨by omega, step_faulted_pc hstep hfault, by omega⟩

/-! ### The length of a run -/

theorem run_add_of_next {s t : State} {m : Nat} (h : core.run m s = .next t) (n : Nat) :
    core.run (m + n) s = core.run n t := by
  induction m generalizing s with
  | zero => cases h; rw [Nat.zero_add]
  | succ m ih =>
    rw [Nat.succ_add]
    cases hstep : step s with
    | next u => rw [run_succ_of_next hstep] at h ⊢; exact ih h
    | fault r => rw [run_succ_of_fault hstep] at h; cases h
    | refused r => rw [run_succ_of_refused hstep] at h; cases h

/-- No run is longer than one whose last state has no step. -/
theorem run_ne_next_of_fault {s t : State} {r : Fault} {m : Nat} (h : core.run m s = .next t)
    (hfault : step t = .fault r) (n : Nat) (u : State) : core.run (m + 1 + n) s ≠ .next u := by
  rw [Nat.add_assoc, Nat.add_comm 1 n, run_add_of_next h, run_succ_of_fault hfault]
  nofun

/-- As long as whole words are left, each step raises the pc by 4 and does not fault (R71). -/
theorem run_over_whole_words (k : Nat) {s : State} (hinv : s.Inv) (hfault : ∀ a, s.status ≠ .faulted a)
    (hleft : s.pc.toNat + 4 * k ≤ s.mem.size) :
    ∃ t : State, core.run k s = .next t ∧ t.pc.toNat = s.pc.toNat + 4 * k ∧ ∀ a, t.status ≠ .faulted a := by
  induction k generalizing s with
  | zero => exact ⟨s, rfl, rfl, hfault⟩
  | succ k ih =>
    obtain ⟨w, hfetch⟩ := State.fetchWord_of_le_size (s := s) (by omega)
    obtain ⟨u, hstep, -, -, hpc, hmem⟩ := step_over_word hinv hfetch
    have hadv : u.pc.toNat = s.pc.toNat + 4 := by
      obtain ⟨-, hsize, -, -, -⟩ := hinv
      rw [hpc, toNat_add_four (by omega)]
    obtain ⟨t, hrun, htpc, htfault⟩ := ih (step_keeps_inv hinv hstep) (step_fetched_not_faulted hstep hfetch)
      (by rw [hadv, hmem]; omega)
    exact ⟨t, (run_succ_of_next hstep k).trans hrun, by omega, htfault⟩

theorem initial_not_faulted (cap : Word) (m : Memory) (a : Word) : (State.initial cap m).status ≠ .faulted a := by
  rw [State.initial_status, initialStatus]
  split <;> nofun

/-- The run over the whole words of an image (R71). -/
theorem run_of_construct {cap : Word} {image : List Byte} {s : State} (h : State.construct cap image = some s) {k : Nat}
    (hk : k ≤ image.length / 4) :
    ∃ t : State, core.run k s = .next t ∧ t.Inv ∧ t.mem.size = image.length ∧ t.pc.toNat = 4 * k ∧
      ∀ a, t.status ≠ .faulted a := by
  have hinv := construct_inv h
  obtain ⟨-, rfl⟩ := construct_eq_some h
  have hleft : (State.initial cap (Memory.ofImage image)).pc.toNat + 4 * k ≤ (Memory.ofImage image).size := by
    simp only [State.initial_pc, BitVec.toNat_ofNat, Memory.ofImage]
    omega
  obtain ⟨t, hrun, hpc, hfault⟩ := run_over_whole_words k hinv (initial_not_faulted cap _) hleft
  refine ⟨t, hrun, run_keeps_inv hinv k hrun, by rw [run_mem hrun]; rfl, by simpa using hpc, hfault⟩

/-- Settles O42: after the whole words the pc is at L, where a state of a run is Halted, or at the partial last word,
where it is Running and its step is the fault. -/
theorem everyRunTerminatesAtTheImageEnd : Obligations.EveryRunTerminatesAtTheImageEnd := by
  intro cap image s hconstruct
  obtain ⟨t, hrun, hinv, hsize, hpc, hfault⟩ := run_of_construct hconstruct (Nat.le_refl _)
  refine ⟨fun k hk => ?_, fun hwhole => ?_, fun hpartial => ?_⟩
  · obtain ⟨u, hurun, -, -, hupc, hufault⟩ := run_of_construct hconstruct hk
    exact ⟨u, hurun, hupc, hufault⟩
  · have hhalt := hinv.status_halted (by omega)
    exact ⟨⟨t, hrun, hhalt⟩, run_ne_next_of_fault hrun (step_of_halted hhalt)⟩
  · have hrunning := hinv.status_running_of_not_faulted (by omega) hfault
    have hlast : core.run (image.length / 4 + 1) s = .next (t.raiseAddressOutOfRange t.pc) := by
      rw [run_add_of_next hrun, run_succ_of_next (step_of_size_lt hrunning (by omega)), run_zero]
    refine ⟨⟨_, hlast, ?_, hpc⟩, run_ne_next_of_fault hlast (step_of_faulted rfl)⟩
    rw [State.raiseAddressOutOfRange_status, ← hpc, BitVec.ofNat_toNat, BitVec.setWidth_eq]

end Sys2Proof.Machine
end

section
/-!
SUPPORT. The integer ALU instructions: the adder, the register each addition writes, and what a write leaves as it was
(R75 to R77).
-/

namespace Sys2Proof.Machine

/-! ### The adder -/

theorem toNat_aluAdd (a b : Word) : (aluAdd a b).toNat = (a.toNat + b.toNat) % 2 ^ 32 := BitVec.toNat_add a b

theorem toInt_aluAdd (a b : Word) : (aluAdd a b).toInt = (a.toInt + b.toInt).bmod (2 ^ 32) := BitVec.toInt_add a b

/-- Settles O19: one sum of bit patterns, under its unsigned and its signed reading. -/
theorem adderWrapsForBothReadings : Obligations.AdderWrapsForBothReadings :=
  fun a b => ⟨toNat_aluAdd a b, toInt_aluAdd a b⟩

/-! ### The destination and the frame -/

theorem State.readReg_writeReg_same (s : State) {i : RegIdx} (hi : i ≠ 0#5) (v : Word) :
    (s.writeReg i v).readReg i = v := by
  rw [State.readReg_writeReg, if_pos ⟨hi, rfl⟩]

theorem State.readReg_writeReg_of_ne (s : State) {i j : RegIdx} (h : j ≠ i ∨ j = 0#5) (v : Word) :
    (s.writeReg i v).readReg j = s.readReg j := by
  rw [State.readReg_writeReg, if_neg fun ⟨hj, hji⟩ => h.elim (· hji) hj]

/-- A sum written to a register, as every register then reads in unsigned numbers (R17, R76). -/
theorem State.toNat_readReg_writeReg_aluAdd (s : State) (i j : RegIdx) (a b : Word) :
    ((s.writeReg i (aluAdd a b)).readReg j).toNat =
      if j ≠ 0#5 ∧ j = i then (a.toNat + b.toNat) % 2 ^ 32 else (s.readReg j).toNat := by
  rw [State.readReg_writeReg, apply_ite BitVec.toNat, toNat_aluAdd]

/-- A register write, byte by byte of memory: what it sets and everything it leaves as it was (R17, R69). -/
theorem State.writeReg_changes_only_dest (s : State) (rd : RegIdx) (v : Word) :
    (rd ≠ 0#5 → (s.writeReg rd v).readReg rd = v) ∧
      (∀ r, r ≠ rd ∨ r = 0#5 → (s.writeReg rd v).readReg r = s.readReg r) ∧
      (s.writeReg rd v).pc = s.pc ∧ (s.writeReg rd v).status = s.status ∧ (s.writeReg rd v).diag = s.diag ∧
      (s.writeReg rd v).mem.size = s.mem.size ∧ ∀ a, (s.writeReg rd v).mem.read a = s.mem.read a := by
  refine ⟨fun hrd => s.readReg_writeReg_same hrd v, fun r hr => s.readReg_writeReg_of_ne hr v, s.writeReg_pc rd v,
    s.writeReg_status rd v, s.writeReg_diag rd v, ?_, fun a => ?_⟩
  · rw [State.writeReg_mem]
  · rw [State.writeReg_mem]

/-! ### The additions -/

/-- Settles O10: such a word decodes to ADDI, which writes the adder's sum to rd. -/
theorem addiWordsAddTheSignExtendedImmediate : Obligations.AddiWordsAddTheSignExtendedImmediate := by
  intro w s hop
  have hexec := exec_addi (rdField w) (rs1Field w) (sext12 (immField w)) s
  rw [← decodeWord_of_addi hop] at hexec
  exact ⟨_, hexec, fun r => s.toNat_readReg_writeReg_aluAdd _ r _ _, s.writeReg_pc _ _, s.writeReg_mem _ _,
    s.writeReg_status _ _, s.writeReg_diag _ _⟩

/-- Settles O11: such a word decodes to ADD, which writes the adder's sum to rd. -/
theorem addWordsAddTheSourceRegisters : Obligations.AddWordsAddTheSourceRegisters := by
  intro w s hop
  have hexec := exec_add (rdField w) (rs1Field w) (rs2Field w) s
  rw [← decodeWord_of_add hop] at hexec
  exact ⟨_, hexec, fun r => s.toNat_readReg_writeReg_aluAdd _ r _ _, s.writeReg_pc _ _, s.writeReg_mem _ _,
    s.writeReg_status _ _, s.writeReg_diag _ _⟩

/-- Settles O12: ADDI is one register write. -/
theorem addiCompletesAndChangesOnlyRd : Obligations.AddiCompletesAndChangesOnlyRd :=
  fun rd rs1 imm s => ⟨_, exec_addi rd rs1 imm s, s.writeReg_changes_only_dest rd _⟩

/-- Settles O13: ADD is one register write. -/
theorem addCompletesAndChangesOnlyRd : Obligations.AddCompletesAndChangesOnlyRd :=
  fun rd rs1 rs2 s => ⟨_, exec_add rd rs1 rs2 s, s.writeReg_changes_only_dest rd _⟩

end Sys2Proof.Machine
end

section
/-!
SUPPORT. The words of no implemented opcode: their Execute and their step (R79, R80).
-/

namespace Sys2Proof.Machine

/-- Execute of a word of no implemented opcode is one event with that opcode (R79). -/
theorem exec_decodeWord_of_other {w : Word} (h13 : opcodeField w ≠ 0x13#7) (h33 : opcodeField w ≠ 0x33#7) (s : State) :
    exec (decodeWord w) s = .next (s.emitDiag (opcodeField w)) := by
  rw [exec_of_opcode_ne (by rwa [decodeWord_opcode]) (by rwa [decodeWord_opcode]), decodeWord_opcode]

/-- Settles O17: Execute emits the word's event, and the cycle around it advances the pc and tests the loop condition. -/
theorem unimplementedWordsOnlyEmitADiagnostic : Obligations.UnimplementedWordsOnlyEmitADiagnostic := by
  intro w s h13 h33
  have hexec := exec_decodeWord_of_other h13 h33
  refine ⟨hexec s, fun hrun hfetch => ?_⟩
  have hstep := step_of_fetchWord hrun hfetch (hexec s.advancePc)
  exact ⟨_, hstep, by simp, by simp, step_mem hstep, step_fetched_pc hstep hfetch, by simp [opcodeField],
    step_fetched_status hstep hfetch⟩

end Sys2Proof.Machine
end

section
/-!
SUPPORT. The exceptions of a step: the fault of the fetch and the diagnostic event (R90 to R93).
-/

namespace Sys2Proof.Machine

/-- Settles O3: the step is the fault at the pc, and no step leaves a Faulted state. -/
theorem outOfRangeFetchEndsTheRunFaulted : Obligations.OutOfRangeFetchEndsTheRunFaulted := by
  intro s hrun _ hend
  have hstatus : (s.raiseAddressOutOfRange s.pc).status = .faulted s.pc := s.raiseAddressOutOfRange_status s.pc
  refine ⟨_, step_of_size_lt hrun hend, hstatus, rfl, rfl, rfl, rfl, fun u hstep => ?_⟩
  rw [step_of_faulted hstatus] at hstep
  cases hstep

/-- Settles O5: the range check of the fetch decides between the fault and Execute, which always completes. -/
theorem runningMachineAlwaysSteps : Obligations.RunningMachineAlwaysSteps := by
  intro s hrun
  obtain ⟨hout, hin⟩ := runningStepFollowsTheCycle s hrun
  rcases Nat.lt_or_ge s.mem.size (s.pc.toNat + 4) with hlt | hle
  · exact ⟨_, hout hlt⟩
  · obtain ⟨_, _, _, _, hstep⟩ := hin hle
    exact ⟨_, hstep⟩

/-- Only the diagnostic kind of step raises an event, and it raises one (R73, R93). -/
theorem step_diag_cases {s t : State} (h : step s = .next t) : t.diag = s.diag ∨ ∃ op, t.diag = s.diag ++ [op] := by
  obtain ⟨-, ⟨-, rfl⟩ | ⟨w, -, ⟨rd, v, rfl⟩ | rfl⟩⟩ := step_cases h
  · exact .inl (s.raiseAddressOutOfRange_diag s.pc)
  · exact .inl (by simp)
  · exact .inr ⟨opcodeField w, by simp⟩

/-- A step that ends Faulted fetched nothing (R93). -/
theorem fetchWord_of_step_faulted {s t : State} {a : Word} (h : step s = .next t) (hfault : t.status = .faulted a) :
    s.fetchWord = none :=
  Option.eq_none_iff_forall_ne_some.mpr fun _ hfetch => step_fetched_not_faulted h hfetch a hfault

/-- Settles O7: a step that faults fetched nothing, and the events of any other step are those of the word it fetched. -/
theorem stepRaisesAtMostOneEvent : Obligations.StepRaisesAtMostOneEvent := by
  intro s t hstep
  refine ⟨step_diag_cases hstep, fun a hfault => ?_, fun w hfetch => step_fetched_not_faulted hstep hfetch,
    fun w hfetch hop => ?_⟩
  · have hfetch := fetchWord_of_step_faulted hstep hfault
    exact ⟨by rw [step_not_fetched hstep hfetch, State.raiseAddressOutOfRange_diag], hfetch⟩
  · obtain ⟨-, hdiag⟩ := step_fetched_effect hstep hfetch
    rwa [wordsDiag_of_addition hop, List.append_nil] at hdiag

end Sys2Proof.Machine
end

section
/-!
SUPPORT. Construction: which images make a machine, and the state it starts in (R19, R105, R106); and the order of
register reads and the register write within a step (R111).
-/

namespace Sys2Proof.Machine

/-! ### Construction and reset -/

/-- CAP admits the image (R105). -/
theorem construct_of_length_le {cap : Word} {image : List Byte} (h : image.length ≤ cap.toNat) :
    State.construct cap image = some (State.initial cap (Memory.ofImage image)) := if_pos h

/-- The image is longer than CAP (R106). -/
theorem construct_of_cap_lt {cap : Word} {image : List Byte} (h : cap.toNat < image.length) :
    State.construct cap image = none := if_neg (Nat.not_le.mpr h)

/-- A machine starts Running exactly when there is a byte to run (R24, R105). -/
theorem initialStatus_ofImage (image : List Byte) :
    initialStatus (Memory.ofImage image) = if image.length > 0 then .running else .halted := by
  cases image with
  | nil => rfl
  | cons b rest => rfl

/-- Settles O35: a constructed state is the initial state over the loaded image, taken field by field. -/
theorem constructionLeavesTheResetState : Obligations.ConstructionLeavesTheResetState := by
  refine ⟨rfl, fun cap image s hconstruct => ?_⟩
  obtain ⟨-, rfl⟩ := construct_eq_some hconstruct
  exact ⟨readReg_initial cap _, State.initial_pc cap _, rfl, Memory.read_ofImage image, initialStatus_ofImage image,
    State.initial_diag cap _⟩

/-- Settles O36: CAP decides, and a word as CAP bounds an admitted L by 32 bits. -/
theorem imageLongerThanCapMakesNoMachine : Obligations.ImageLongerThanCapMakesNoMachine := by
  refine fun cap image => ⟨fun hle => ⟨_, construct_of_length_le hle, ?_⟩, construct_of_cap_lt⟩
  have hcap : cap.toNat < 2 ^ 32 := cap.isLt
  show image.length ≤ 0xFFFFFFFF
  omega

theorem construct_nil : State.construct Config.defaultCap [] = some State.reset := rfl

/-- Settles O37: the reset state of the empty image, of which no address is backed. -/
theorem resetIsTheEmptyConstruction : Obligations.ResetIsTheEmptyConstruction := by
  obtain ⟨-, hreset⟩ := constructionLeavesTheResetState
  obtain ⟨hregs, hpc, -, hmem, hstatus, hdiag⟩ := hreset _ _ _ construct_nil
  exact ⟨construct_nil, hregs, hpc, hmem, hstatus, hdiag⟩

/-! ### Sources before the destination -/

/-- ADD leaves in rd the sum of what its sources read before the step (R77). -/
theorem exec_add_dest {rd : RegIdx} (hrd : rd ≠ 0#5) (rs1 rs2 : RegIdx) (s : State) :
    ∃ t, exec (.add rd rs1 rs2) s = .next t ∧ t.readReg rd = s.readReg rs1 + s.readReg rs2 :=
  ⟨_, exec_add rd rs1 rs2 s, s.readReg_writeReg_same hrd _⟩

/-- Settles O15: the sum written to rd is one of reads before the write, so rd may be any of the sources. -/
theorem sourcesAreReadBeforeTheDestination : Obligations.SourcesAreReadBeforeTheDestination := by
  refine fun rd rs imm s hrd =>
    ⟨⟨_, exec_addi rd rd imm s, s.readReg_writeReg_same hrd _⟩, exec_add_dest hrd rd rs s, exec_add_dest hrd rs rd s, ?_⟩
  obtain ⟨t, hexec, hsum⟩ := exec_add_dest hrd rd rd s
  exact ⟨t, hexec, by rw [hsum, BitVec.toNat_add, Nat.two_mul]⟩

end Sys2Proof.Machine
end
